-- ==== Sys2Proof/Word.lean ====
section
/-!
DEFINITION. The machine's two word types (rule R10: registers A, X, Y, SP, P and a memory cell are 8 bits; PC and an
address are 16 bits). `+` and `-` on them wrap modulo 256 and 65536 (`wrap8`, `wrap16` of rule R6).
-/

namespace Sys2Proof

/-- A u8: a register A, X, Y, SP or P, an operand byte, a memory cell. -/
abbrev Byte := BitVec 8

/-- A u16: the program counter, an address, an operand word. -/
abbrev Addr := BitVec 16

end Sys2Proof
end

