-- ==== Sys2Proof/Config.lean ====
section
/-!
DEFINITION. The parameters of rule R10, which the machine is given before it runs and which no instruction changes
(rule R20: "configuration, not state"): the attached regions, the PPU device, the value of P at reset, the three readings
the spec leaves to a parameter, and the opcode table. The remaining parameter of R10, `MEM0`, is the memory a machine is
constructed with.

The type of memory contents stands here because a ROM device carries the bytes of its program ROM.
-/

namespace Sys2Proof

/-- Memory contents: (address, byte) pairs in one canonical form (`Memory.wf`, Machine/Memory.lean). -/
abbrev Memory := List Host.Cell

/-- How many 16 KiB program pages a ROM device has (rule R64: 1 or 2; "any mapper beyond the simplest linear PRG-ROM
mapping" is a non-goal). -/
inductive RomPages
  | one | two
  deriving DecidableEq, Repr

/-- A memory device, "a closed polymorphic variant set {Ram, Rom, NullDevice}" (rule R51). -/
inductive Device
  /-- R63. Its cells are `State.mem`, keyed by the address the bus hands it. -/
  | ram
  /-- R64. `prg` holds the program-ROM bytes by offset from the start of the ROM. -/
  | rom (pages : RomPages) (prg : Memory)
  /-- R51: answers every read with 0 and discards every write. -/
  | null
  deriving DecidableEq, Repr

/-- A `(start, end, device)` triple attached to the bus; the interval is closed (rule R55). -/
structure Region where
  first : Addr
  last : Addr
  device : Device
  deriving DecidableEq, Repr

/-- How "PC was not altered by the handler" is tested (rule R84, decision D6). -/
inductive PcAlteredTest
  | value | assignment
  deriving DecidableEq, Repr

/-- What a two-page ROM device gives for a read below 0x8000, where rule R64 states no value: a free value, some byte
for each ROM content and address (DESIGN CHOICE, log entry 10). -/
opaque Config.romUnstated : Memory → Addr → Byte

/-- The parameters of rule R10. -/
structure Config where
  /-- `REGIONS`, in attach order (R61). -/
  regions : List Region
  /-- `PPU_DEVICE`, the device of the window 0x2000 to 0x3FFF, or none (R54). -/
  ppuDevice : Option Device
  /-- `P_RESET`, the value of P after construction and after `reset()` (R37). -/
  pReset : Byte
  /-- `BIT_N_MASK`, the operand mask BIT tests for NEGATIVE (R151). -/
  bitNMask : Byte
  /-- `PC_ALTERED_TEST` (R84). -/
  pcAlteredTest : PcAlteredTest
  /-- `INDY_ZP_WRAP`: Indirect_Y fetches its pointer's high byte with zero-page wrap (R99). -/
  indyZpWrap : Bool
  /-- `OPTABLE` (R81), by its differences from spec/opcode_table.json: the byte has the record that file gives the
  second byte, or no entry. The first pair of a byte counts; a byte without one has its own record (log entry 6). -/
  opTable : List (Byte × Option Byte)
  deriving DecidableEq, Repr

/-- The one region of "a CPU with full RAM attached" (rules R63, R293). -/
def fullRam : Region := ⟨0x0000, 0xFFFF, .ram⟩

/-- The configuration of `State.reset`: R10's defaults, and full RAM for `REGIONS`, which has no default
(DESIGN CHOICE, log entry 2; unsafe). -/
def Config.default : Config where
  regions := [fullRam]
  ppuDevice := none
  pReset := 0x14
  bitNMask := 0x80
  pcAlteredTest := .value
  indyZpWrap := true
  opTable := []

end Sys2Proof
end

