-- ==== Sys2Proof/Syntax.lean ====
section
/-!
DEFINITION. The instructions of the machine as syntax: one constructor of `Instr` for each of the 256 rows of
spec/opcode_table.json (one row per opcode byte), the flags, the resolver's addressing modes, and two
reading functions over the syntax, `Instr.mnemonic` and `Instr.operand`.

A constructor's name is the row's mnemonic in lower case and the short mode name of rule R106 (`Imm`, `Zp`, `Zpx`,
`Zpy`, `Abs`, `Abx`, `Aby`, `Izx`, `Izy`, `Ind`, `Acc`; nothing for Implied and Relative, and nothing for the one
form of JSR), and the opcode byte in hexadecimal where two rows have the same mnemonic and mode. Its argument is the
instruction's operand: a byte (an immediate, a zero-page address, a zero-page pointer, a branch offset) or the 16-bit
word of the two operand bytes (rules R80, R103).
-/

namespace Sys2Proof

/-- The eight flags of the status register `P` (rule R27), bit 0 first. `u` is BREAK2. -/
inductive Flag
  | c | z | i | d | b | u | v | n
  deriving DecidableEq, Repr

/-- The resolver's operand modes, the ten members of rule R90, each with the operand bytes it is given. -/
inductive Operand
  /-- Immediate (R91): the byte after the opcode. -/
  | imm (v : Byte)
  /-- ZeroPage (R92). -/
  | zp (b : Byte)
  /-- ZeroPage_X (R93). -/
  | zpx (b : Byte)
  /-- ZeroPage_Y (R94). -/
  | zpy (b : Byte)
  /-- Absolute (R95). -/
  | abs (w : Addr)
  /-- Absolute_X (R96). -/
  | abx (w : Addr)
  /-- Absolute_Y (R97). -/
  | aby (w : Addr)
  /-- Indirect_X (R98). -/
  | izx (b : Byte)
  /-- Indirect_Y (R99). -/
  | izy (b : Byte)
  /-- NoneAddressing (R100): the handler does not call the resolver. -/
  | noneAddressing
  deriving DecidableEq, Repr

/-- The mnemonics of spec/opcode_table.json; `unhandled` stands for its `(unhandled)` rows. -/
inductive Mnemonic
  | BRK | ORA | SLO | NOP | ASL | PHP | ANC | BPL | CLC | JSR | AND | RLA | BIT | ROL | PLP | BMI | SEC | RTI
  | EOR | SRE | LSR | PHA | ALR | JMP | BVC | CLI | RTS | ADC | RRA | ROR | PLA | ARR | BVS | SEI | STA | SAX
  | STY | STX | DEY | TXA | BCC | TYA | TXS | LDY | LDA | LDX | LAX | TAY | TAX | BCS | CLV | TSX | CPY | CMP
  | DCP | DEC | INY | DEX | AXS | BNE | CLD | CPX | SBC | ISB | INC | INX | BEQ | SED | unhandled
  deriving DecidableEq, Repr

/-- The instructions: one constructor per row of spec/opcode_table.json, those with operand bytes first, each part in
byte order (the compiler bounds the position of a constructor with arguments). -/
inductive Instr
  /-- 0x01 ORA Indirect_X, R142. -/
  | oraIzx (b : Byte)
  /-- 0x03 SLO Indirect_X, R233. -/
  | sloIzx (b : Byte)
  /-- 0x04 NOP ZeroPage, R232. -/
  | nopZp04 (b : Byte)
  /-- 0x05 ORA ZeroPage, R142. -/
  | oraZp (b : Byte)
  /-- 0x06 ASL ZeroPage, R171. -/
  | aslZp (b : Byte)
  /-- 0x07 SLO ZeroPage, R233. -/
  | sloZp (b : Byte)
  /-- 0x09 ORA Immediate, R142. -/
  | oraImm (v : Byte)
  /-- 0x0B ANC Immediate, R241. -/
  | ancImm0B (v : Byte)
  /-- 0x0C NOP Absolute, R232. -/
  | nopAbs (w : Addr)
  /-- 0x0D ORA Absolute, R142. -/
  | oraAbs (w : Addr)
  /-- 0x0E ASL Absolute, R171. -/
  | aslAbs (w : Addr)
  /-- 0x0F SLO Absolute, R233. -/
  | sloAbs (w : Addr)
  /-- 0x10 BPL Relative, R206. -/
  | bpl (off : Byte)
  /-- 0x11 ORA Indirect_Y, R142. -/
  | oraIzy (b : Byte)
  /-- 0x13 SLO Indirect_Y, R233. -/
  | sloIzy (b : Byte)
  /-- 0x14 NOP ZeroPage_X, R232. -/
  | nopZpx14 (b : Byte)
  /-- 0x15 ORA ZeroPage_X, R142. -/
  | oraZpx (b : Byte)
  /-- 0x16 ASL ZeroPage_X, R171. -/
  | aslZpx (b : Byte)
  /-- 0x17 SLO ZeroPage_X, R233. -/
  | sloZpx (b : Byte)
  /-- 0x19 ORA Absolute_Y, R142. -/
  | oraAby (w : Addr)
  /-- 0x1B SLO Absolute_Y, R233. -/
  | sloAby (w : Addr)
  /-- 0x1C NOP Absolute_X, R232. -/
  | nopAbx1C (w : Addr)
  /-- 0x1D ORA Absolute_X, R142. -/
  | oraAbx (w : Addr)
  /-- 0x1E ASL Absolute_X, R171. -/
  | aslAbx (w : Addr)
  /-- 0x1F SLO Absolute_X, R233. -/
  | sloAbx (w : Addr)
  /-- 0x20 JSR Absolute, R211. -/
  | jsr (w : Addr)
  /-- 0x21 AND Indirect_X, R141. -/
  | andIzx (b : Byte)
  /-- 0x23 RLA Indirect_X, R234. -/
  | rlaIzx (b : Byte)
  /-- 0x24 BIT ZeroPage, R151. -/
  | bitZp (b : Byte)
  /-- 0x25 AND ZeroPage, R141. -/
  | andZp (b : Byte)
  /-- 0x26 ROL ZeroPage, R173. -/
  | rolZp (b : Byte)
  /-- 0x27 RLA ZeroPage, R234. -/
  | rlaZp (b : Byte)
  /-- 0x29 AND Immediate, R141. -/
  | andImm (v : Byte)
  /-- 0x2B ANC Immediate, R241. -/
  | ancImm2B (v : Byte)
  /-- 0x2C BIT Absolute, R151. -/
  | bitAbs (w : Addr)
  /-- 0x2D AND Absolute, R141. -/
  | andAbs (w : Addr)
  /-- 0x2E ROL Absolute, R173. -/
  | rolAbs (w : Addr)
  /-- 0x2F RLA Absolute, R234. -/
  | rlaAbs (w : Addr)
  /-- 0x30 BMI Relative, R205. -/
  | bmi (off : Byte)
  /-- 0x31 AND Indirect_Y, R141. -/
  | andIzy (b : Byte)
  /-- 0x33 RLA Indirect_Y, R234. -/
  | rlaIzy (b : Byte)
  /-- 0x34 NOP ZeroPage_X, R232. -/
  | nopZpx34 (b : Byte)
  /-- 0x35 AND ZeroPage_X, R141. -/
  | andZpx (b : Byte)
  /-- 0x36 ROL ZeroPage_X, R173. -/
  | rolZpx (b : Byte)
  /-- 0x37 RLA ZeroPage_X, R234. -/
  | rlaZpx (b : Byte)
  /-- 0x39 AND Absolute_Y, R141. -/
  | andAby (w : Addr)
  /-- 0x3B RLA Absolute_Y, R234. -/
  | rlaAby (w : Addr)
  /-- 0x3C NOP Absolute_X, R232. -/
  | nopAbx3C (w : Addr)
  /-- 0x3D AND Absolute_X, R141. -/
  | andAbx (w : Addr)
  /-- 0x3E ROL Absolute_X, R173. -/
  | rolAbx (w : Addr)
  /-- 0x3F RLA Absolute_X, R234. -/
  | rlaAbx (w : Addr)
  /-- 0x41 EOR Indirect_X, R143. -/
  | eorIzx (b : Byte)
  /-- 0x43 SRE Indirect_X, R235. -/
  | sreIzx (b : Byte)
  /-- 0x44 NOP ZeroPage, R232. -/
  | nopZp44 (b : Byte)
  /-- 0x45 EOR ZeroPage, R143. -/
  | eorZp (b : Byte)
  /-- 0x46 LSR ZeroPage, R172. -/
  | lsrZp (b : Byte)
  /-- 0x47 SRE ZeroPage, R235. -/
  | sreZp (b : Byte)
  /-- 0x49 EOR Immediate, R143. -/
  | eorImm (v : Byte)
  /-- 0x4B ALR Immediate, R242. -/
  | alrImm (v : Byte)
  /-- 0x4C JMP Absolute, R209. -/
  | jmpAbs (w : Addr)
  /-- 0x4D EOR Absolute, R143. -/
  | eorAbs (w : Addr)
  /-- 0x4E LSR Absolute, R172. -/
  | lsrAbs (w : Addr)
  /-- 0x4F SRE Absolute, R235. -/
  | sreAbs (w : Addr)
  /-- 0x50 BVC Relative, R207. -/
  | bvc (off : Byte)
  /-- 0x51 EOR Indirect_Y, R143. -/
  | eorIzy (b : Byte)
  /-- 0x53 SRE Indirect_Y, R235. -/
  | sreIzy (b : Byte)
  /-- 0x54 NOP ZeroPage_X, R232. -/
  | nopZpx54 (b : Byte)
  /-- 0x55 EOR ZeroPage_X, R143. -/
  | eorZpx (b : Byte)
  /-- 0x56 LSR ZeroPage_X, R172. -/
  | lsrZpx (b : Byte)
  /-- 0x57 SRE ZeroPage_X, R235. -/
  | sreZpx (b : Byte)
  /-- 0x59 EOR Absolute_Y, R143. -/
  | eorAby (w : Addr)
  /-- 0x5B SRE Absolute_Y, R235. -/
  | sreAby (w : Addr)
  /-- 0x5C NOP Absolute_X, R232. -/
  | nopAbx5C (w : Addr)
  /-- 0x5D EOR Absolute_X, R143. -/
  | eorAbx (w : Addr)
  /-- 0x5E LSR Absolute_X, R172. -/
  | lsrAbx (w : Addr)
  /-- 0x5F SRE Absolute_X, R235. -/
  | sreAbx (w : Addr)
  /-- 0x61 ADC Indirect_X, R145. -/
  | adcIzx (b : Byte)
  /-- 0x63 RRA Indirect_X, R236. -/
  | rraIzx (b : Byte)
  /-- 0x64 NOP ZeroPage, R232. -/
  | nopZp64 (b : Byte)
  /-- 0x65 ADC ZeroPage, R145. -/
  | adcZp (b : Byte)
  /-- 0x66 ROR ZeroPage, R174. -/
  | rorZp (b : Byte)
  /-- 0x67 RRA ZeroPage, R236. -/
  | rraZp (b : Byte)
  /-- 0x69 ADC Immediate, R145. -/
  | adcImm (v : Byte)
  /-- 0x6B ARR Immediate, R243. -/
  | arrImm (v : Byte)
  /-- 0x6C JMP Indirect, R210. -/
  | jmpInd (w : Addr)
  /-- 0x6D ADC Absolute, R145. -/
  | adcAbs (w : Addr)
  /-- 0x6E ROR Absolute, R174. -/
  | rorAbs (w : Addr)
  /-- 0x6F RRA Absolute, R236. -/
  | rraAbs (w : Addr)
  /-- 0x70 BVS Relative, R208. -/
  | bvs (off : Byte)
  /-- 0x71 ADC Indirect_Y, R145. -/
  | adcIzy (b : Byte)
  /-- 0x73 RRA Indirect_Y, R236. -/
  | rraIzy (b : Byte)
  /-- 0x74 NOP ZeroPage_X, R232. -/
  | nopZpx74 (b : Byte)
  /-- 0x75 ADC ZeroPage_X, R145. -/
  | adcZpx (b : Byte)
  /-- 0x76 ROR ZeroPage_X, R174. -/
  | rorZpx (b : Byte)
  /-- 0x77 RRA ZeroPage_X, R236. -/
  | rraZpx (b : Byte)
  /-- 0x79 ADC Absolute_Y, R145. -/
  | adcAby (w : Addr)
  /-- 0x7B RRA Absolute_Y, R236. -/
  | rraAby (w : Addr)
  /-- 0x7C NOP Absolute_X, R232. -/
  | nopAbx7C (w : Addr)
  /-- 0x7D ADC Absolute_X, R145. -/
  | adcAbx (w : Addr)
  /-- 0x7E ROR Absolute_X, R174. -/
  | rorAbx (w : Addr)
  /-- 0x7F RRA Absolute_X, R236. -/
  | rraAbx (w : Addr)
  /-- 0x80 NOP Immediate, R232. -/
  | nopImm80 (v : Byte)
  /-- 0x81 STA Indirect_X, R124. -/
  | staIzx (b : Byte)
  /-- 0x82 NOP Immediate, R232. -/
  | nopImm82 (v : Byte)
  /-- 0x83 SAX Indirect_X, R237. -/
  | saxIzx (b : Byte)
  /-- 0x84 STY ZeroPage, R126. -/
  | styZp (b : Byte)
  /-- 0x85 STA ZeroPage, R124. -/
  | staZp (b : Byte)
  /-- 0x86 STX ZeroPage, R125. -/
  | stxZp (b : Byte)
  /-- 0x87 SAX ZeroPage, R237. -/
  | saxZp (b : Byte)
  /-- 0x89 NOP Immediate, R232. -/
  | nopImm89 (v : Byte)
  /-- 0x8C STY Absolute, R126. -/
  | styAbs (w : Addr)
  /-- 0x8D STA Absolute, R124. -/
  | staAbs (w : Addr)
  /-- 0x8E STX Absolute, R125. -/
  | stxAbs (w : Addr)
  /-- 0x8F SAX Absolute, R237. -/
  | saxAbs (w : Addr)
  /-- 0x90 BCC Relative, R201. -/
  | bcc (off : Byte)
  /-- 0x91 STA Indirect_Y, R124. -/
  | staIzy (b : Byte)
  /-- 0x94 STY ZeroPage_X, R126. -/
  | styZpx (b : Byte)
  /-- 0x95 STA ZeroPage_X, R124. -/
  | staZpx (b : Byte)
  /-- 0x96 STX ZeroPage_Y, R125. -/
  | stxZpy (b : Byte)
  /-- 0x97 SAX ZeroPage_Y, R237. -/
  | saxZpy (b : Byte)
  /-- 0x99 STA Absolute_Y, R124. -/
  | staAby (w : Addr)
  /-- 0x9D STA Absolute_X, R124. -/
  | staAbx (w : Addr)
  /-- 0xA0 LDY Immediate, R123. -/
  | ldyImm (v : Byte)
  /-- 0xA1 LDA Indirect_X, R121. -/
  | ldaIzx (b : Byte)
  /-- 0xA2 LDX Immediate, R122. -/
  | ldxImm (v : Byte)
  /-- 0xA3 LAX Indirect_X, R238. -/
  | laxIzx (b : Byte)
  /-- 0xA4 LDY ZeroPage, R123. -/
  | ldyZp (b : Byte)
  /-- 0xA5 LDA ZeroPage, R121. -/
  | ldaZp (b : Byte)
  /-- 0xA6 LDX ZeroPage, R122. -/
  | ldxZp (b : Byte)
  /-- 0xA7 LAX ZeroPage, R238. -/
  | laxZp (b : Byte)
  /-- 0xA9 LDA Immediate, R121. -/
  | ldaImm (v : Byte)
  /-- 0xAC LDY Absolute, R123. -/
  | ldyAbs (w : Addr)
  /-- 0xAD LDA Absolute, R121. -/
  | ldaAbs (w : Addr)
  /-- 0xAE LDX Absolute, R122. -/
  | ldxAbs (w : Addr)
  /-- 0xAF LAX Absolute, R238. -/
  | laxAbs (w : Addr)
  /-- 0xB0 BCS Relative, R202. -/
  | bcs (off : Byte)
  /-- 0xB1 LDA Indirect_Y, R121. -/
  | ldaIzy (b : Byte)
  /-- 0xB3 LAX Indirect_Y, R238. -/
  | laxIzy (b : Byte)
  /-- 0xB4 LDY ZeroPage_X, R123. -/
  | ldyZpx (b : Byte)
  /-- 0xB5 LDA ZeroPage_X, R121. -/
  | ldaZpx (b : Byte)
  /-- 0xB6 LDX ZeroPage_Y, R122. -/
  | ldxZpy (b : Byte)
  /-- 0xB7 LAX ZeroPage_Y, R238. -/
  | laxZpy (b : Byte)
  /-- 0xB9 LDA Absolute_Y, R121. -/
  | ldaAby (w : Addr)
  /-- 0xBC LDY Absolute_X, R123. -/
  | ldyAbx (w : Addr)
  /-- 0xBD LDA Absolute_X, R121. -/
  | ldaAbx (w : Addr)
  /-- 0xBE LDX Absolute_Y, R122. -/
  | ldxAby (w : Addr)
  /-- 0xBF LAX Absolute_Y, R238. -/
  | laxAby (w : Addr)
  /-- 0xC0 CPY Immediate, R150. -/
  | cpyImm (v : Byte)
  /-- 0xC1 CMP Indirect_X, R148. -/
  | cmpIzx (b : Byte)
  /-- 0xC2 NOP Immediate, R232. -/
  | nopImmC2 (v : Byte)
  /-- 0xC3 DCP Indirect_X, R239. -/
  | dcpIzx (b : Byte)
  /-- 0xC4 CPY ZeroPage, R150. -/
  | cpyZp (b : Byte)
  /-- 0xC5 CMP ZeroPage, R148. -/
  | cmpZp (b : Byte)
  /-- 0xC6 DEC ZeroPage, R153. -/
  | decZp (b : Byte)
  /-- 0xC7 DCP ZeroPage, R239. -/
  | dcpZp (b : Byte)
  /-- 0xC9 CMP Immediate, R148. -/
  | cmpImm (v : Byte)
  /-- 0xCB AXS Immediate, R244. -/
  | axsImm (v : Byte)
  /-- 0xCC CPY Absolute, R150. -/
  | cpyAbs (w : Addr)
  /-- 0xCD CMP Absolute, R148. -/
  | cmpAbs (w : Addr)
  /-- 0xCE DEC Absolute, R153. -/
  | decAbs (w : Addr)
  /-- 0xCF DCP Absolute, R239. -/
  | dcpAbs (w : Addr)
  /-- 0xD0 BNE Relative, R204. -/
  | bne (off : Byte)
  /-- 0xD1 CMP Indirect_Y, R148. -/
  | cmpIzy (b : Byte)
  /-- 0xD3 DCP Indirect_Y, R239. -/
  | dcpIzy (b : Byte)
  /-- 0xD4 NOP ZeroPage_X, R232. -/
  | nopZpxD4 (b : Byte)
  /-- 0xD5 CMP ZeroPage_X, R148. -/
  | cmpZpx (b : Byte)
  /-- 0xD6 DEC ZeroPage_X, R153. -/
  | decZpx (b : Byte)
  /-- 0xD7 DCP ZeroPage_X, R239. -/
  | dcpZpx (b : Byte)
  /-- 0xD9 CMP Absolute_Y, R148. -/
  | cmpAby (w : Addr)
  /-- 0xDB DCP Absolute_Y, R239. -/
  | dcpAby (w : Addr)
  /-- 0xDC NOP Absolute_X, R232. -/
  | nopAbxDC (w : Addr)
  /-- 0xDD CMP Absolute_X, R148. -/
  | cmpAbx (w : Addr)
  /-- 0xDE DEC Absolute_X, R153. -/
  | decAbx (w : Addr)
  /-- 0xDF DCP Absolute_X, R239. -/
  | dcpAbx (w : Addr)
  /-- 0xE0 CPX Immediate, R149. -/
  | cpxImm (v : Byte)
  /-- 0xE1 SBC Indirect_X, R146. -/
  | sbcIzx (b : Byte)
  /-- 0xE2 NOP Immediate, R232. -/
  | nopImmE2 (v : Byte)
  /-- 0xE3 ISB Indirect_X, R240. -/
  | isbIzx (b : Byte)
  /-- 0xE4 CPX ZeroPage, R149. -/
  | cpxZp (b : Byte)
  /-- 0xE5 SBC ZeroPage, R146. -/
  | sbcZp (b : Byte)
  /-- 0xE6 INC ZeroPage, R152. -/
  | incZp (b : Byte)
  /-- 0xE7 ISB ZeroPage, R240. -/
  | isbZp (b : Byte)
  /-- 0xE9 SBC Immediate, R146. -/
  | sbcImm (v : Byte)
  /-- 0xEB SBC Immediate, R245. -/
  | sbcImmEB (v : Byte)
  /-- 0xEC CPX Absolute, R149. -/
  | cpxAbs (w : Addr)
  /-- 0xED SBC Absolute, R146. -/
  | sbcAbs (w : Addr)
  /-- 0xEE INC Absolute, R152. -/
  | incAbs (w : Addr)
  /-- 0xEF ISB Absolute, R240. -/
  | isbAbs (w : Addr)
  /-- 0xF0 BEQ Relative, R203. -/
  | beq (off : Byte)
  /-- 0xF1 SBC Indirect_Y, R146. -/
  | sbcIzy (b : Byte)
  /-- 0xF3 ISB Indirect_Y, R240. -/
  | isbIzy (b : Byte)
  /-- 0xF4 NOP ZeroPage_X, R232. -/
  | nopZpxF4 (b : Byte)
  /-- 0xF5 SBC ZeroPage_X, R146. -/
  | sbcZpx (b : Byte)
  /-- 0xF6 INC ZeroPage_X, R152. -/
  | incZpx (b : Byte)
  /-- 0xF7 ISB ZeroPage_X, R240. -/
  | isbZpx (b : Byte)
  /-- 0xF9 SBC Absolute_Y, R146. -/
  | sbcAby (w : Addr)
  /-- 0xFB ISB Absolute_Y, R240. -/
  | isbAby (w : Addr)
  /-- 0xFC NOP Absolute_X, R232. -/
  | nopAbxFC (w : Addr)
  /-- 0xFD SBC Absolute_X, R146. -/
  | sbcAbx (w : Addr)
  /-- 0xFE INC Absolute_X, R152. -/
  | incAbx (w : Addr)
  /-- 0xFF ISB Absolute_X, R240. -/
  | isbAbx (w : Addr)
  /-- 0x00 BRK Implied, R220. -/
  | brk
  /-- 0x02, no table entry (JAM), R246. -/
  | jam02
  /-- 0x08 PHP Implied, R182. -/
  | php
  /-- 0x0A ASL Accumulator, R171. -/
  | aslAcc
  /-- 0x12, no table entry (JAM), R246. -/
  | jam12
  /-- 0x18 CLC Implied, R184. -/
  | clc
  /-- 0x1A NOP Implied, R231. -/
  | nop1A
  /-- 0x22, no table entry (JAM), R246. -/
  | jam22
  /-- 0x28 PLP Implied, R183. -/
  | plp
  /-- 0x2A ROL Accumulator, R173. -/
  | rolAcc
  /-- 0x32, no table entry (JAM), R246. -/
  | jam32
  /-- 0x38 SEC Implied, R185. -/
  | sec
  /-- 0x3A NOP Implied, R231. -/
  | nop3A
  /-- 0x40 RTI Implied, R221. -/
  | rti
  /-- 0x42, no table entry (JAM), R246. -/
  | jam42
  /-- 0x48 PHA Implied, R180. -/
  | pha
  /-- 0x4A LSR Accumulator, R172. -/
  | lsrAcc
  /-- 0x52, no table entry (JAM), R246. -/
  | jam52
  /-- 0x58 CLI Implied, R186. -/
  | cli
  /-- 0x5A NOP Implied, R231. -/
  | nop5A
  /-- 0x60 RTS Implied, R212. -/
  | rts
  /-- 0x62, no table entry (JAM), R246. -/
  | jam62
  /-- 0x68 PLA Implied, R181. -/
  | pla
  /-- 0x6A ROR Accumulator, R174. -/
  | rorAcc
  /-- 0x72, no table entry (JAM), R246. -/
  | jam72
  /-- 0x78 SEI Implied, R187. -/
  | sei
  /-- 0x7A NOP Implied, R231. -/
  | nop7A
  /-- 0x88 DEY Implied, R157. -/
  | dey
  /-- 0x8A TXA Implied, R129. -/
  | txa
  /-- 0x8B, no table entry (XAA), R246. -/
  | xaa8B
  /-- 0x92, no table entry (JAM), R246. -/
  | jam92
  /-- 0x93, no table entry (AHX), R246. -/
  | ahx93
  /-- 0x98 TYA Implied, R130. -/
  | tya
  /-- 0x9A TXS Implied, R132. -/
  | txs
  /-- 0x9B, no table entry (TAS), R246. -/
  | tas9B
  /-- 0x9C, no table entry (SHY), R246. -/
  | shy9C
  /-- 0x9E, no table entry (SHX), R246. -/
  | shx9E
  /-- 0x9F, no table entry (AHX), R246. -/
  | ahx9F
  /-- 0xA8 TAY Implied, R128. -/
  | tay
  /-- 0xAA TAX Implied, R127. -/
  | tax
  /-- 0xAB, no table entry (LXA), R246. -/
  | lxaAB
  /-- 0xB2, no table entry (JAM), R246. -/
  | jamB2
  /-- 0xB8 CLV Implied, R190. -/
  | clv
  /-- 0xBA TSX Implied, R131. -/
  | tsx
  /-- 0xBB, no table entry (LAS), R246. -/
  | lasBB
  /-- 0xC8 INY Implied, R155. -/
  | iny
  /-- 0xCA DEX Implied, R156. -/
  | dex
  /-- 0xD2, no table entry (JAM), R246. -/
  | jamD2
  /-- 0xD8 CLD Implied, R188. -/
  | cld
  /-- 0xDA NOP Implied, R231. -/
  | nopDA
  /-- 0xE8 INX Implied, R154. -/
  | inx
  /-- 0xEA NOP Implied, R191. -/
  | nop
  /-- 0xF2, no table entry (JAM), R246. -/
  | jamF2
  /-- 0xF8 SED Implied, R189. -/
  | sed
  /-- 0xFA NOP Implied, R231. -/
  | nopFA
  deriving DecidableEq, Repr

/-- The mnemonic of an instruction, the `mnemonic` column of spec/opcode_table.json. -/
def Instr.mnemonic : Instr → Mnemonic
  | .brk => .BRK
  | .oraIzx _ | .oraZp _ | .oraImm _ | .oraAbs _ | .oraIzy _ | .oraZpx _ | .oraAby _ | .oraAbx _ => .ORA
  | .sloIzx _ | .sloZp _ | .sloAbs _ | .sloIzy _ | .sloZpx _ | .sloAby _ | .sloAbx _ => .SLO
  | .nopZp04 _ | .nopAbs _ | .nopZpx14 _ | .nop1A | .nopAbx1C _ | .nopZpx34 _ | .nop3A | .nopAbx3C _
    | .nopZp44 _ | .nopZpx54 _ | .nop5A | .nopAbx5C _ | .nopZp64 _ | .nopZpx74 _ | .nop7A | .nopAbx7C _
    | .nopImm80 _ | .nopImm82 _ | .nopImm89 _ | .nopImmC2 _ | .nopZpxD4 _ | .nopDA | .nopAbxDC _
    | .nopImmE2 _ | .nop | .nopZpxF4 _ | .nopFA | .nopAbxFC _ => .NOP
  | .aslZp _ | .aslAcc | .aslAbs _ | .aslZpx _ | .aslAbx _ => .ASL
  | .php => .PHP
  | .ancImm0B _ | .ancImm2B _ => .ANC
  | .bpl _ => .BPL
  | .clc => .CLC
  | .jsr _ => .JSR
  | .andIzx _ | .andZp _ | .andImm _ | .andAbs _ | .andIzy _ | .andZpx _ | .andAby _ | .andAbx _ => .AND
  | .rlaIzx _ | .rlaZp _ | .rlaAbs _ | .rlaIzy _ | .rlaZpx _ | .rlaAby _ | .rlaAbx _ => .RLA
  | .bitZp _ | .bitAbs _ => .BIT
  | .rolZp _ | .rolAcc | .rolAbs _ | .rolZpx _ | .rolAbx _ => .ROL
  | .plp => .PLP
  | .bmi _ => .BMI
  | .sec => .SEC
  | .rti => .RTI
  | .eorIzx _ | .eorZp _ | .eorImm _ | .eorAbs _ | .eorIzy _ | .eorZpx _ | .eorAby _ | .eorAbx _ => .EOR
  | .sreIzx _ | .sreZp _ | .sreAbs _ | .sreIzy _ | .sreZpx _ | .sreAby _ | .sreAbx _ => .SRE
  | .lsrZp _ | .lsrAcc | .lsrAbs _ | .lsrZpx _ | .lsrAbx _ => .LSR
  | .pha => .PHA
  | .alrImm _ => .ALR
  | .jmpAbs _ | .jmpInd _ => .JMP
  | .bvc _ => .BVC
  | .cli => .CLI
  | .rts => .RTS
  | .adcIzx _ | .adcZp _ | .adcImm _ | .adcAbs _ | .adcIzy _ | .adcZpx _ | .adcAby _ | .adcAbx _ => .ADC
  | .rraIzx _ | .rraZp _ | .rraAbs _ | .rraIzy _ | .rraZpx _ | .rraAby _ | .rraAbx _ => .RRA
  | .rorZp _ | .rorAcc | .rorAbs _ | .rorZpx _ | .rorAbx _ => .ROR
  | .pla => .PLA
  | .arrImm _ => .ARR
  | .bvs _ => .BVS
  | .sei => .SEI
  | .staIzx _ | .staZp _ | .staAbs _ | .staIzy _ | .staZpx _ | .staAby _ | .staAbx _ => .STA
  | .saxIzx _ | .saxZp _ | .saxAbs _ | .saxZpy _ => .SAX
  | .styZp _ | .styAbs _ | .styZpx _ => .STY
  | .stxZp _ | .stxAbs _ | .stxZpy _ => .STX
  | .dey => .DEY
  | .txa => .TXA
  | .bcc _ => .BCC
  | .tya => .TYA
  | .txs => .TXS
  | .ldyImm _ | .ldyZp _ | .ldyAbs _ | .ldyZpx _ | .ldyAbx _ => .LDY
  | .ldaIzx _ | .ldaZp _ | .ldaImm _ | .ldaAbs _ | .ldaIzy _ | .ldaZpx _ | .ldaAby _ | .ldaAbx _ => .LDA
  | .ldxImm _ | .ldxZp _ | .ldxAbs _ | .ldxZpy _ | .ldxAby _ => .LDX
  | .laxIzx _ | .laxZp _ | .laxAbs _ | .laxIzy _ | .laxZpy _ | .laxAby _ => .LAX
  | .tay => .TAY
  | .tax => .TAX
  | .bcs _ => .BCS
  | .clv => .CLV
  | .tsx => .TSX
  | .cpyImm _ | .cpyZp _ | .cpyAbs _ => .CPY
  | .cmpIzx _ | .cmpZp _ | .cmpImm _ | .cmpAbs _ | .cmpIzy _ | .cmpZpx _ | .cmpAby _ | .cmpAbx _ => .CMP
  | .dcpIzx _ | .dcpZp _ | .dcpAbs _ | .dcpIzy _ | .dcpZpx _ | .dcpAby _ | .dcpAbx _ => .DCP
  | .decZp _ | .decAbs _ | .decZpx _ | .decAbx _ => .DEC
  | .iny => .INY
  | .dex => .DEX
  | .axsImm _ => .AXS
  | .bne _ => .BNE
  | .cld => .CLD
  | .cpxImm _ | .cpxZp _ | .cpxAbs _ => .CPX
  | .sbcIzx _ | .sbcZp _ | .sbcImm _ | .sbcImmEB _ | .sbcAbs _ | .sbcIzy _ | .sbcZpx _ | .sbcAby _
    | .sbcAbx _ => .SBC
  | .isbIzx _ | .isbZp _ | .isbAbs _ | .isbIzy _ | .isbZpx _ | .isbAby _ | .isbAbx _ => .ISB
  | .incZp _ | .incAbs _ | .incZpx _ | .incAbx _ => .INC
  | .inx => .INX
  | .beq _ => .BEQ
  | .sed => .SED
  | .jam02 | .jam12 | .jam22 | .jam32 | .jam42 | .jam52 | .jam62 | .jam72 | .xaa8B | .jam92 | .ahx93 | .tas9B
    | .shy9C | .shx9E | .ahx9F | .lxaAB | .jamB2 | .lasBB | .jamD2 | .jamF2 => .unhandled

/-- The operand an instruction gives the resolver (rule R90): its addressing mode, which is the `resolver_mode`
column of spec/opcode_table.json, with its operand bytes; `noneAddressing` for the instructions whose handlers do not
call the resolver (implied and accumulator forms, the branches, JMP, JSR, and the bytes with no table entry). -/
def Instr.operand : Instr → Operand
  | .oraIzx b => .izx b
  | .sloIzx b => .izx b
  | .nopZp04 b => .zp b
  | .oraZp b => .zp b
  | .aslZp b => .zp b
  | .sloZp b => .zp b
  | .oraImm v => .imm v
  | .ancImm0B v => .imm v
  | .nopAbs w => .abs w
  | .oraAbs w => .abs w
  | .aslAbs w => .abs w
  | .sloAbs w => .abs w
  | .oraIzy b => .izy b
  | .sloIzy b => .izy b
  | .nopZpx14 b => .zpx b
  | .oraZpx b => .zpx b
  | .aslZpx b => .zpx b
  | .sloZpx b => .zpx b
  | .oraAby w => .aby w
  | .sloAby w => .aby w
  | .nopAbx1C w => .abx w
  | .oraAbx w => .abx w
  | .aslAbx w => .abx w
  | .sloAbx w => .abx w
  | .andIzx b => .izx b
  | .rlaIzx b => .izx b
  | .bitZp b => .zp b
  | .andZp b => .zp b
  | .rolZp b => .zp b
  | .rlaZp b => .zp b
  | .andImm v => .imm v
  | .ancImm2B v => .imm v
  | .bitAbs w => .abs w
  | .andAbs w => .abs w
  | .rolAbs w => .abs w
  | .rlaAbs w => .abs w
  | .andIzy b => .izy b
  | .rlaIzy b => .izy b
  | .nopZpx34 b => .zpx b
  | .andZpx b => .zpx b
  | .rolZpx b => .zpx b
  | .rlaZpx b => .zpx b
  | .andAby w => .aby w
  | .rlaAby w => .aby w
  | .nopAbx3C w => .abx w
  | .andAbx w => .abx w
  | .rolAbx w => .abx w
  | .rlaAbx w => .abx w
  | .eorIzx b => .izx b
  | .sreIzx b => .izx b
  | .nopZp44 b => .zp b
  | .eorZp b => .zp b
  | .lsrZp b => .zp b
  | .sreZp b => .zp b
  | .eorImm v => .imm v
  | .alrImm v => .imm v
  | .eorAbs w => .abs w
  | .lsrAbs w => .abs w
  | .sreAbs w => .abs w
  | .eorIzy b => .izy b
  | .sreIzy b => .izy b
  | .nopZpx54 b => .zpx b
  | .eorZpx b => .zpx b
  | .lsrZpx b => .zpx b
  | .sreZpx b => .zpx b
  | .eorAby w => .aby w
  | .sreAby w => .aby w
  | .nopAbx5C w => .abx w
  | .eorAbx w => .abx w
  | .lsrAbx w => .abx w
  | .sreAbx w => .abx w
  | .adcIzx b => .izx b
  | .rraIzx b => .izx b
  | .nopZp64 b => .zp b
  | .adcZp b => .zp b
  | .rorZp b => .zp b
  | .rraZp b => .zp b
  | .adcImm v => .imm v
  | .arrImm v => .imm v
  | .adcAbs w => .abs w
  | .rorAbs w => .abs w
  | .rraAbs w => .abs w
  | .adcIzy b => .izy b
  | .rraIzy b => .izy b
  | .nopZpx74 b => .zpx b
  | .adcZpx b => .zpx b
  | .rorZpx b => .zpx b
  | .rraZpx b => .zpx b
  | .adcAby w => .aby w
  | .rraAby w => .aby w
  | .nopAbx7C w => .abx w
  | .adcAbx w => .abx w
  | .rorAbx w => .abx w
  | .rraAbx w => .abx w
  | .nopImm80 v => .imm v
  | .staIzx b => .izx b
  | .nopImm82 v => .imm v
  | .saxIzx b => .izx b
  | .styZp b => .zp b
  | .staZp b => .zp b
  | .stxZp b => .zp b
  | .saxZp b => .zp b
  | .nopImm89 v => .imm v
  | .styAbs w => .abs w
  | .staAbs w => .abs w
  | .stxAbs w => .abs w
  | .saxAbs w => .abs w
  | .staIzy b => .izy b
  | .styZpx b => .zpx b
  | .staZpx b => .zpx b
  | .stxZpy b => .zpy b
  | .saxZpy b => .zpy b
  | .staAby w => .aby w
  | .staAbx w => .abx w
  | .ldyImm v => .imm v
  | .ldaIzx b => .izx b
  | .ldxImm v => .imm v
  | .laxIzx b => .izx b
  | .ldyZp b => .zp b
  | .ldaZp b => .zp b
  | .ldxZp b => .zp b
  | .laxZp b => .zp b
  | .ldaImm v => .imm v
  | .ldyAbs w => .abs w
  | .ldaAbs w => .abs w
  | .ldxAbs w => .abs w
  | .laxAbs w => .abs w
  | .ldaIzy b => .izy b
  | .laxIzy b => .izy b
  | .ldyZpx b => .zpx b
  | .ldaZpx b => .zpx b
  | .ldxZpy b => .zpy b
  | .laxZpy b => .zpy b
  | .ldaAby w => .aby w
  | .ldyAbx w => .abx w
  | .ldaAbx w => .abx w
  | .ldxAby w => .aby w
  | .laxAby w => .aby w
  | .cpyImm v => .imm v
  | .cmpIzx b => .izx b
  | .nopImmC2 v => .imm v
  | .dcpIzx b => .izx b
  | .cpyZp b => .zp b
  | .cmpZp b => .zp b
  | .decZp b => .zp b
  | .dcpZp b => .zp b
  | .cmpImm v => .imm v
  | .axsImm v => .imm v
  | .cpyAbs w => .abs w
  | .cmpAbs w => .abs w
  | .decAbs w => .abs w
  | .dcpAbs w => .abs w
  | .cmpIzy b => .izy b
  | .dcpIzy b => .izy b
  | .nopZpxD4 b => .zpx b
  | .cmpZpx b => .zpx b
  | .decZpx b => .zpx b
  | .dcpZpx b => .zpx b
  | .cmpAby w => .aby w
  | .dcpAby w => .aby w
  | .nopAbxDC w => .abx w
  | .cmpAbx w => .abx w
  | .decAbx w => .abx w
  | .dcpAbx w => .abx w
  | .cpxImm v => .imm v
  | .sbcIzx b => .izx b
  | .nopImmE2 v => .imm v
  | .isbIzx b => .izx b
  | .cpxZp b => .zp b
  | .sbcZp b => .zp b
  | .incZp b => .zp b
  | .isbZp b => .zp b
  | .sbcImm v => .imm v
  | .sbcImmEB v => .imm v
  | .cpxAbs w => .abs w
  | .sbcAbs w => .abs w
  | .incAbs w => .abs w
  | .isbAbs w => .abs w
  | .sbcIzy b => .izy b
  | .isbIzy b => .izy b
  | .nopZpxF4 b => .zpx b
  | .sbcZpx b => .zpx b
  | .incZpx b => .zpx b
  | .isbZpx b => .zpx b
  | .sbcAby w => .aby w
  | .isbAby w => .aby w
  | .nopAbxFC w => .abx w
  | .sbcAbx w => .abx w
  | .incAbx w => .abx w
  | .isbAbx w => .abx w
  | .brk | .jam02 | .php | .aslAcc | .bpl _ | .jam12 | .clc | .nop1A | .jsr _ | .jam22 | .plp | .rolAcc
  | .bmi _ | .jam32 | .sec | .nop3A | .rti | .jam42 | .pha | .lsrAcc | .jmpAbs _ | .bvc _ | .jam52 | .cli
  | .nop5A | .rts | .jam62 | .pla | .rorAcc | .jmpInd _ | .bvs _ | .jam72 | .sei | .nop7A | .dey | .txa
  | .xaa8B | .bcc _ | .jam92 | .ahx93 | .tya | .txs | .tas9B | .shy9C | .shx9E | .ahx9F | .tay | .tax
  | .lxaAB | .bcs _ | .jamB2 | .clv | .tsx | .lasBB | .iny | .dex | .bne _ | .jamD2 | .cld | .nopDA | .inx
  | .nop | .beq _ | .jamF2 | .sed | .nopFA => .noneAddressing

end Sys2Proof
end

