-- ==== Sys2Proof/Machine/State.lean ====
section
/-!
DEFINITION. The state of the machine (rules R20 to R37), the fatal conditions (rule R260), the refusals, and the state
right after reset.
-/

namespace Sys2Proof.Machine

/-- The fatal conditions of rule R260: a step that meets one ends without a next state, and the state it leaves is not
exposed (R270). Each errs on the safe side: nothing can be proved of what the machine holds afterwards. -/
inductive Fault
  /-- Kind 1 (R261). Raised by the checked operations of the integer domain (Machine/IntDomain.lean), never by a
  step. Safe. -/
  | overflow
  /-- Kind 2 (R262). Raised by `attach` when an end of the new region lies in an attached one, never by a step. Safe. -/
  | regionConflict
  /-- Kind 4 (R264). Raised by a step whose opcode byte has no table entry; carries the byte and the address it was
  read from. Safe. -/
  | unhandledOpcode (op : Byte) (opaddr : Addr)
  /-- Kind 5 (R265). Raised by the resolver called with NoneAddressing; no instruction does so (R100). Safe. -/
  | unsupportedAddressingMode
  /-- Kind 6 (R266). The cartridge parser's, which is out of scope (R4): nothing here raises it. Safe. -/
  | malformedCartridge
  /-- Kind 7 (R267). Raised by an access in 0x2000 to 0x3FFF with no PPU device; carries the address before masking.
  Safe. -/
  | ppuAccess (addr : Addr)
  /-- Kind 8 (R268). Raised by a write routed to a ROM device; carries the address the device is handed. Safe. -/
  | romWrite (addr : Addr)
  deriving DecidableEq, Repr

/-- What the model gives no meaning. All but the first are host operations the spec calls undefined or excludes; no
step raises one. Safe. -/
inductive Refusal
  /-- An instruction without a meaning, by its mnemonic: an arm of `exec` not written yet. There is none. -/
  | notModelled (mnemonic : String)
  /-- `attach` with start above end (R62, U2). -/
  | invertedRegion
  /-- `checked_div` by zero (R9, U9). -/
  | divisionByZero
  /-- A program of more than 0x7FFC bytes given to the loader (R294, U16). -/
  | programTooLong
  deriving DecidableEq, Repr

/-- The machine's state. -/
structure State where
  /-- The program counter (R25): between steps the address of the next opcode byte. -/
  pc : Addr
  /-- The accumulator (R21). -/
  a : Byte
  /-- Index register X (R22). -/
  x : Byte
  /-- Index register Y (R23). -/
  y : Byte
  /-- The stack pointer (R24). -/
  sp : Byte
  /-- The status register (R27); its bits are read and written through Machine/Flags.lean. -/
  p : Byte
  /-- The cells of the RAM devices (R20, R63). -/
  mem : Memory
  /-- The configuration (R10), constant: no step changes it (log entry 1). -/
  cfg : Config
  deriving DecidableEq, Repr

/-- The machine right after `reset()` (rules R37, R291) in the configuration `Config.default`, with nothing listed in
memory: the vector at 0xFFFC then reads as 0x0000 (log entries 2, 3, 4). -/
def State.reset : State where
  pc := 0x0000
  a := 0x00
  x := 0x00
  y := 0x00
  sp := 0xFD
  p := 0x14
  mem := []
  cfg := Config.default

/-- What an instruction, or a step, answers. -/
abbrev Result := Host.Outcome State Fault Refusal

end Sys2Proof.Machine
end

