-- ==== Sys2Proof/Machine/IntDomain.lean ====
section
/-!
DEFINITION. The fixed-width integer domain (rules R6 to R9): the four families, wrapping and checked arithmetic, the
negation that keeps MIN, and the conversions the instruction rules use. Exact arithmetic is on `Int`.
-/

namespace Sys2Proof.Machine

/-- The four families of rule R11. -/
inductive IntFamily
  | u8 | u16 | i8 | i16
  deriving DecidableEq, Repr

/-- MIN of a family (R11). -/
def IntFamily.min : IntFamily → Int
  | .u8 | .u16 => 0
  | .i8 => -128
  | .i16 => -32768

/-- MAX of a family (R11). -/
def IntFamily.max : IntFamily → Int
  | .u8 => 255
  | .u16 => 65535
  | .i8 => 127
  | .i16 => 32767

/-- Is the integer a value of the family? -/
def IntFamily.holds (f : IntFamily) (n : Int) : Bool := decide (f.min ≤ n ∧ n ≤ f.max)

/-- The bare construction of a family's value from any integer: modular reduction into range (R6). -/
def IntFamily.wrap (f : IntFamily) (n : Int) : Int := (n - f.min) % (f.max - f.min + 1) + f.min

/-- `wrapping_add` (R6). -/
def IntFamily.wrappingAdd (f : IntFamily) (a b : Int) : Int := f.wrap (a + b)

/-- `wrapping_sub` (R6). -/
def IntFamily.wrappingSub (f : IntFamily) (a b : Int) : Int := f.wrap (a - b)

/-- The exact result if it is in range, else Overflow and no value (R7). -/
def IntFamily.checked (f : IntFamily) (n : Int) : Host.Outcome Int Fault Refusal :=
  if f.holds n then .next n else .fault .overflow

/-- `checked_add` (R7). -/
def IntFamily.checkedAdd (f : IntFamily) (a b : Int) : Host.Outcome Int Fault Refusal := f.checked (a + b)

/-- `checked_sub` (R7). -/
def IntFamily.checkedSub (f : IntFamily) (a b : Int) : Host.Outcome Int Fault Refusal := f.checked (a - b)

/-- `checked_mul` (R7). -/
def IntFamily.checkedMul (f : IntFamily) (a b : Int) : Host.Outcome Int Fault Refusal := f.checked (a * b)

/-- `checked_div`, truncating toward negative infinity (R9); by zero it is not described (N17, U9): refused. -/
def IntFamily.checkedDiv (f : IntFamily) (a b : Int) : Host.Outcome Int Fault Refusal :=
  if b = 0 then .refused .divisionByZero else f.checked (Int.fdiv a b)

/-- `neg_i8` (R8): negating MIN gives MIN. -/
def negI8 (v : Int) : Int := if v = -128 then -128 else -v

/-- `neg_i16` (R8). -/
def negI16 (v : Int) : Int := if v = -32768 then -32768 else -v

/-- `wrap8` of an integer, as a u8 (R6). -/
def wrap8 (n : Int) : Byte := BitVec.ofInt 8 n

/-- `wrap16` of an integer, as a u16 (R6). -/
def wrap16 (n : Int) : Addr := BitVec.ofInt 16 n

/-- `sext8` (R12): the signed value of a u8. -/
def sext8 (v : Byte) : Int := if v.toNat < 128 then v.toNat else v.toNat - 256

end Sys2Proof.Machine
end

