-- ==== Sys2Proof/Machine/Flags.lean ====
section
/-!
DEFINITION. The status register's bits (rules R27, R29, R34) and every flag computation of the spec: `setZN` (R13),
`adc_core` (R144), `compare` (R147), BIT's set-only rule (R151), the shifts and rotates (R170 to R174) and the carries
of ANC, ALR, ARR and AXS (R241 to R244).
-/

namespace Sys2Proof.Machine

/-- The bit position of a flag (R27). -/
def Flag.bit : Flag → Nat
  | .c => 0 | .z => 1 | .i => 2 | .d => 3 | .b => 4 | .u => 5 | .v => 6 | .n => 7

/-- The mask of a flag (R27). -/
def Flag.mask (f : Flag) : Byte := 0x01 <<< Flag.bit f

/-- `has(flag)` (R34): `P.f == 1`. -/
def hasFlag (p : Byte) (f : Flag) : Bool := p.getLsbD (Flag.bit f)

/-- `set(flag)` (R34): `P.f <- 1`. -/
def setFlag (f : Flag) (p : Byte) : Byte := p ||| Flag.mask f

/-- `unset(flag)` (R34): `P.f <- 0`. -/
def unsetFlag (f : Flag) (p : Byte) : Byte := p &&& ~~~ Flag.mask f

/-- `toggle(flag)` (R34): `P.f <- 1 - P.f`. -/
def toggleFlag (f : Flag) (p : Byte) : Byte := p ^^^ Flag.mask f

/-- `P.f <- v`. -/
def putFlag (f : Flag) (v : Bool) (p : Byte) : Byte := if v then setFlag f p else unsetFlag f p

/-- The byte a push of the flags writes, a copy with BREAK and BREAK2 forced set (R29, R182). -/
def pushedStatus (p : Byte) : Byte := p ||| 0x30

/-- The status a pull of the flags restores: BREAK forced clear, BREAK2 forced set (R29, R183). -/
def restoredStatus (v : Byte) : Byte := (v &&& 0xEF) ||| 0x20

/-- `setZN(v)` on a status byte (R13). -/
def statusZN (v p : Byte) : Byte := putFlag .n (v.getLsbD 7) (putFlag .z (v == 0x00) p)

/-- `setZN(v)` (R13). -/
def setZN (v : Byte) (s : State) : State := { s with p := statusZN v s.p }

/-- `A <- v; setZN(v)`. -/
def accumulate (v : Byte) (s : State) : State := setZN v { s with a := v }

/-- `P.C <- v`. -/
def setCarry (v : Bool) (s : State) : State := { s with p := putFlag .c v s.p }

/-! ### The adder -/

/-- The exact sum of the adder, 0 to 511 (R144). -/
def adderSum (a m : Byte) (carry : Bool) : Nat := a.toNat + m.toNat + carry.toNat

/-- OVERFLOW of the adder: `((m ^ r) & (r ^ a0) & 0x80) != 0` (R144). -/
def adderOverflow (a m r : Byte) : Bool := (m ^^^ r) &&& (r ^^^ a) &&& 0x80 != 0x00

/-- `adc_core(m)` (R144), binary whatever DECIMAL holds. -/
def adcCore (m : Byte) (s : State) : State :=
  let sum := adderSum s.a m (hasFlag s.p .c)
  let r : Byte := BitVec.ofNat 8 sum
  let p := putFlag .v (adderOverflow s.a m r) (putFlag .c (decide (sum > 0xFF)) s.p)
  setZN r { s with a := r, p := p }

/-- The operand SBC gives the adder (R146): `wrap8(neg_i8(sext8(m)) - 1)`. -/
def sbcOperand (m : Byte) : Byte := wrap8 (negI8 (sext8 m) - 1)

/-- SBC of a byte (R146): the adder on the negated operand less one. -/
def sbcCore (m : Byte) (s : State) : State := adcCore (sbcOperand m) s

/-! ### Compare and bit test -/

/-- `compare(reg, m)` (R147). -/
def compareWith (reg m : Byte) (s : State) : State := setZN (reg - m) (setCarry (decide (m.toNat ≤ reg.toNat)) s)

/-- BIT on an operand byte (R151): ZERO assigned, NEGATIVE and OVERFLOW only ever set. -/
def bitTest (m : Byte) (s : State) : State :=
  let p := putFlag .z (s.a &&& m == 0x00) s.p
  let p := if m &&& s.cfg.bitNMask != 0x00 then setFlag .n p else p
  let p := if m &&& 0x40 != 0x00 then setFlag .v p else p
  { s with p := p }

/-! ### Shifts and rotates -/

/-- The result of a shift or rotate and the carry it leaves. -/
structure Shifted where
  result : Byte
  carry : Bool
  deriving DecidableEq, Repr

/-- ASL's shift (R171); the carry-in is not used. -/
def shiftLeft (v : Byte) (_carry : Bool) : Shifted := ⟨v <<< 1, v.getLsbD 7⟩

/-- LSR's shift (R172). -/
def shiftRight (v : Byte) (_carry : Bool) : Shifted := ⟨v >>> 1, v.getLsbD 0⟩

/-- ROL's rotate (R173): the previous carry enters bit 0. -/
def rotateLeft (v : Byte) (carry : Bool) : Shifted := ⟨(v <<< 1) ||| (if carry then 0x01 else 0x00), v.getLsbD 7⟩

/-- ROR's rotate (R174): the previous carry enters bit 7. -/
def rotateRight (v : Byte) (carry : Bool) : Shifted := ⟨(v >>> 1) ||| (if carry then 0x80 else 0x00), v.getLsbD 0⟩

/-- A shift or rotate of a byte in a state: the result, and the state with `P.C` written (R170). -/
def shiftStep (f : Byte → Bool → Shifted) (v : Byte) (s : State) : Byte × State :=
  let r := f v (hasFlag s.p .c)
  (r.result, setCarry r.carry s)

/-! ### The unofficial immediate operations -/

/-- ANC (R241). -/
def ancCore (m : Byte) (s : State) : State :=
  let r := s.a &&& m
  setCarry (r.getLsbD 7) (accumulate r s)

/-- ALR (R242). -/
def alrCore (m : Byte) (s : State) : State :=
  let t := s.a &&& m
  accumulate (t >>> 1) (setCarry (t.getLsbD 0) s)

/-- ARR (R243): C is bit 6 of the result, V is bit 6 xor bit 5. -/
def arrCore (m : Byte) (s : State) : State :=
  let r := (rotateRight (s.a &&& m) (hasFlag s.p .c)).result
  let s := setCarry (r.getLsbD 6) (accumulate r s)
  { s with p := putFlag .v (r.getLsbD 6 ^^ r.getLsbD 5) s.p }

/-- AXS (R244): X becomes (A and X) less the immediate, with the flags of a comparison. -/
def axsCore (m : Byte) (s : State) : State :=
  let t := s.a &&& s.x
  compareWith t m { s with x := t - m }

/-! ### Branch conditions -/

/-- A branch condition: `P.flag == value` (R200 to R208). -/
structure Cond where
  flag : Flag
  value : Bool
  deriving DecidableEq, Repr

/-- Does the condition hold of a status byte? -/
def Cond.holds (c : Cond) (p : Byte) : Bool := hasFlag p c.flag == c.value

end Sys2Proof.Machine
end

