-- ==== Sys2Proof/Decode.lean ====
section
/-!
DEFINITION. The opcode table OPTABLE (rules R81, R106, R108; spec/opcode_table.json), the decoder over bytes, total
and rejecting by name, and after it the encoder.

The opcode byte alone selects the instruction, its mode and its length (R80): a row of the table says how many operand
bytes follow and which instruction they make. The twenty bytes with no table entry (R107) decode to their own
constructors of `Instr`, which are not well-formed (WellFormed.lean) and whose meaning is the fatal UnhandledOpcode.
-/

namespace Sys2Proof

/-! ### Byte order (rule R59: little-endian everywhere) -/

/-- `w[7:0]`. -/
def lowByte (w : Addr) : Byte := w.setWidth 8

/-- `w[15:8]`. -/
def highByte (w : Addr) : Byte := (w >>> 8).setWidth 8

/-- `hi ++ lo`, that is `hi * 256 + lo` (rule R57). -/
def joinBytes (hi lo : Byte) : Addr := hi ++ lo

/-! ### The opcode table -/

/-- The instruction formats of rule R82. -/
inductive Format
  | implied | accumulator | immediate | zeroPage | zeroPageX | zeroPageY | absolute | absoluteX | absoluteY
  | indirectX | indirectY | relative | indirect
  deriving DecidableEq, Repr

/-- The mode tags a table entry carries for the resolver (rule R90). -/
inductive ModeTag
  | immediate | zeroPage | zeroPageX | zeroPageY | absolute | absoluteX | absoluteY | indirectX | indirectY
  | noneAddressing
  deriving DecidableEq, Repr

/-- The mode tag of an operand. -/
def operandTag : Operand → ModeTag
  | .imm _ => .immediate
  | .zp _ => .zeroPage
  | .zpx _ => .zeroPageX
  | .zpy _ => .zeroPageY
  | .abs _ => .absolute
  | .abx _ => .absoluteX
  | .aby _ => .absoluteY
  | .izx _ => .indirectX
  | .izy _ => .indirectY
  | .noneAddressing => .noneAddressing

/-- The length in bytes of each format (R82). -/
def Format.length : Format → Nat
  | .implied | .accumulator => 1
  | .immediate | .zeroPage | .zeroPageX | .zeroPageY | .indirectX | .indirectY | .relative => 2
  | .absolute | .absoluteX | .absoluteY | .indirect => 3

/-- The cycle count of a table entry: the base count, and whether the `cycles` column adds `t` (a taken branch) or `p`
(a page crossing). Data only: no operation of the core reads it (rule R300). -/
structure Cycles where
  base : Nat
  taken : Bool
  page : Bool
  deriving DecidableEq, Repr

/-- The record of one opcode: mnemonic, format, mode tag, whole length in bytes, cycle count (rules R81, R82). The
mode tag of JMP absolute and of JSR is `noneAddressing`, as rules R209 and R211 say (log entry 22). -/
structure OpEntry where
  mnemonic : Mnemonic
  format : Format
  mode : ModeTag
  length : Nat
  cycles : Cycles
  official : Bool
  deriving DecidableEq, Repr

/-- How the operand bytes make the instruction: none, one byte, or two bytes, the low byte first (R80). -/
inductive OperandForm
  | plain (i : Instr)
  | byte (f : Byte → Instr)
  | word (f : Addr → Instr)

/-- One row of the table: the entry (none for the twenty bytes of R107) and the operand form. -/
structure OpRow where
  entry : Option OpEntry
  form : OperandForm

/-- A row with an entry. -/
def opRow (m : Mnemonic) (f : Format) (t : ModeTag) (len cyc : Nat) (taken page official : Bool) (form : OperandForm) :
    OpRow :=
  ⟨some ⟨m, f, t, len, ⟨cyc, taken, page⟩, official⟩, form⟩

/-- A row without an entry. -/
def noEntry (i : Instr) : OpRow := ⟨none, .plain i⟩

/-- Row 0x of the map of rule R106. -/
def opTable0 : List OpRow := [
  opRow .BRK .implied .noneAddressing 1 7 false false true (.plain .brk),
  opRow .ORA .indirectX .indirectX 2 6 false false true (.byte .oraIzx),
  noEntry .jam02,
  opRow .SLO .indirectX .indirectX 2 8 false false false (.byte .sloIzx),
  opRow .NOP .zeroPage .zeroPage 2 3 false false false (.byte .nopZp04),
  opRow .ORA .zeroPage .zeroPage 2 3 false false true (.byte .oraZp),
  opRow .ASL .zeroPage .zeroPage 2 5 false false true (.byte .aslZp),
  opRow .SLO .zeroPage .zeroPage 2 5 false false false (.byte .sloZp),
  opRow .PHP .implied .noneAddressing 1 3 false false true (.plain .php),
  opRow .ORA .immediate .immediate 2 2 false false true (.byte .oraImm),
  opRow .ASL .accumulator .noneAddressing 1 2 false false true (.plain .aslAcc),
  opRow .ANC .immediate .immediate 2 2 false false false (.byte .ancImm0B),
  opRow .NOP .absolute .absolute 3 4 false false false (.word .nopAbs),
  opRow .ORA .absolute .absolute 3 4 false false true (.word .oraAbs),
  opRow .ASL .absolute .absolute 3 6 false false true (.word .aslAbs),
  opRow .SLO .absolute .absolute 3 6 false false false (.word .sloAbs)]

/-- Row 1x of the map of rule R106. -/
def opTable1 : List OpRow := [
  opRow .BPL .relative .noneAddressing 2 2 true true true (.byte .bpl),
  opRow .ORA .indirectY .indirectY 2 5 false true true (.byte .oraIzy),
  noEntry .jam12,
  opRow .SLO .indirectY .indirectY 2 8 false false false (.byte .sloIzy),
  opRow .NOP .zeroPageX .zeroPageX 2 4 false false false (.byte .nopZpx14),
  opRow .ORA .zeroPageX .zeroPageX 2 4 false false true (.byte .oraZpx),
  opRow .ASL .zeroPageX .zeroPageX 2 6 false false true (.byte .aslZpx),
  opRow .SLO .zeroPageX .zeroPageX 2 6 false false false (.byte .sloZpx),
  opRow .CLC .implied .noneAddressing 1 2 false false true (.plain .clc),
  opRow .ORA .absoluteY .absoluteY 3 4 false true true (.word .oraAby),
  opRow .NOP .implied .noneAddressing 1 2 false false false (.plain .nop1A),
  opRow .SLO .absoluteY .absoluteY 3 7 false false false (.word .sloAby),
  opRow .NOP .absoluteX .absoluteX 3 4 false true false (.word .nopAbx1C),
  opRow .ORA .absoluteX .absoluteX 3 4 false true true (.word .oraAbx),
  opRow .ASL .absoluteX .absoluteX 3 7 false false true (.word .aslAbx),
  opRow .SLO .absoluteX .absoluteX 3 7 false false false (.word .sloAbx)]

/-- Row 2x of the map of rule R106. -/
def opTable2 : List OpRow := [
  opRow .JSR .absolute .noneAddressing 3 6 false false true (.word .jsr),
  opRow .AND .indirectX .indirectX 2 6 false false true (.byte .andIzx),
  noEntry .jam22,
  opRow .RLA .indirectX .indirectX 2 8 false false false (.byte .rlaIzx),
  opRow .BIT .zeroPage .zeroPage 2 3 false false true (.byte .bitZp),
  opRow .AND .zeroPage .zeroPage 2 3 false false true (.byte .andZp),
  opRow .ROL .zeroPage .zeroPage 2 5 false false true (.byte .rolZp),
  opRow .RLA .zeroPage .zeroPage 2 5 false false false (.byte .rlaZp),
  opRow .PLP .implied .noneAddressing 1 4 false false true (.plain .plp),
  opRow .AND .immediate .immediate 2 2 false false true (.byte .andImm),
  opRow .ROL .accumulator .noneAddressing 1 2 false false true (.plain .rolAcc),
  opRow .ANC .immediate .immediate 2 2 false false false (.byte .ancImm2B),
  opRow .BIT .absolute .absolute 3 4 false false true (.word .bitAbs),
  opRow .AND .absolute .absolute 3 4 false false true (.word .andAbs),
  opRow .ROL .absolute .absolute 3 6 false false true (.word .rolAbs),
  opRow .RLA .absolute .absolute 3 6 false false false (.word .rlaAbs)]

/-- Row 3x of the map of rule R106. -/
def opTable3 : List OpRow := [
  opRow .BMI .relative .noneAddressing 2 2 true true true (.byte .bmi),
  opRow .AND .indirectY .indirectY 2 5 false true true (.byte .andIzy),
  noEntry .jam32,
  opRow .RLA .indirectY .indirectY 2 8 false false false (.byte .rlaIzy),
  opRow .NOP .zeroPageX .zeroPageX 2 4 false false false (.byte .nopZpx34),
  opRow .AND .zeroPageX .zeroPageX 2 4 false false true (.byte .andZpx),
  opRow .ROL .zeroPageX .zeroPageX 2 6 false false true (.byte .rolZpx),
  opRow .RLA .zeroPageX .zeroPageX 2 6 false false false (.byte .rlaZpx),
  opRow .SEC .implied .noneAddressing 1 2 false false true (.plain .sec),
  opRow .AND .absoluteY .absoluteY 3 4 false true true (.word .andAby),
  opRow .NOP .implied .noneAddressing 1 2 false false false (.plain .nop3A),
  opRow .RLA .absoluteY .absoluteY 3 7 false false false (.word .rlaAby),
  opRow .NOP .absoluteX .absoluteX 3 4 false true false (.word .nopAbx3C),
  opRow .AND .absoluteX .absoluteX 3 4 false true true (.word .andAbx),
  opRow .ROL .absoluteX .absoluteX 3 7 false false true (.word .rolAbx),
  opRow .RLA .absoluteX .absoluteX 3 7 false false false (.word .rlaAbx)]

/-- Row 4x of the map of rule R106. -/
def opTable4 : List OpRow := [
  opRow .RTI .implied .noneAddressing 1 6 false false true (.plain .rti),
  opRow .EOR .indirectX .indirectX 2 6 false false true (.byte .eorIzx),
  noEntry .jam42,
  opRow .SRE .indirectX .indirectX 2 8 false false false (.byte .sreIzx),
  opRow .NOP .zeroPage .zeroPage 2 3 false false false (.byte .nopZp44),
  opRow .EOR .zeroPage .zeroPage 2 3 false false true (.byte .eorZp),
  opRow .LSR .zeroPage .zeroPage 2 5 false false true (.byte .lsrZp),
  opRow .SRE .zeroPage .zeroPage 2 5 false false false (.byte .sreZp),
  opRow .PHA .implied .noneAddressing 1 3 false false true (.plain .pha),
  opRow .EOR .immediate .immediate 2 2 false false true (.byte .eorImm),
  opRow .LSR .accumulator .noneAddressing 1 2 false false true (.plain .lsrAcc),
  opRow .ALR .immediate .immediate 2 2 false false false (.byte .alrImm),
  opRow .JMP .absolute .noneAddressing 3 3 false false true (.word .jmpAbs),
  opRow .EOR .absolute .absolute 3 4 false false true (.word .eorAbs),
  opRow .LSR .absolute .absolute 3 6 false false true (.word .lsrAbs),
  opRow .SRE .absolute .absolute 3 6 false false false (.word .sreAbs)]

/-- Row 5x of the map of rule R106. -/
def opTable5 : List OpRow := [
  opRow .BVC .relative .noneAddressing 2 2 true true true (.byte .bvc),
  opRow .EOR .indirectY .indirectY 2 5 false true true (.byte .eorIzy),
  noEntry .jam52,
  opRow .SRE .indirectY .indirectY 2 8 false false false (.byte .sreIzy),
  opRow .NOP .zeroPageX .zeroPageX 2 4 false false false (.byte .nopZpx54),
  opRow .EOR .zeroPageX .zeroPageX 2 4 false false true (.byte .eorZpx),
  opRow .LSR .zeroPageX .zeroPageX 2 6 false false true (.byte .lsrZpx),
  opRow .SRE .zeroPageX .zeroPageX 2 6 false false false (.byte .sreZpx),
  opRow .CLI .implied .noneAddressing 1 2 false false true (.plain .cli),
  opRow .EOR .absoluteY .absoluteY 3 4 false true true (.word .eorAby),
  opRow .NOP .implied .noneAddressing 1 2 false false false (.plain .nop5A),
  opRow .SRE .absoluteY .absoluteY 3 7 false false false (.word .sreAby),
  opRow .NOP .absoluteX .absoluteX 3 4 false true false (.word .nopAbx5C),
  opRow .EOR .absoluteX .absoluteX 3 4 false true true (.word .eorAbx),
  opRow .LSR .absoluteX .absoluteX 3 7 false false true (.word .lsrAbx),
  opRow .SRE .absoluteX .absoluteX 3 7 false false false (.word .sreAbx)]

/-- Row 6x of the map of rule R106. -/
def opTable6 : List OpRow := [
  opRow .RTS .implied .noneAddressing 1 6 false false true (.plain .rts),
  opRow .ADC .indirectX .indirectX 2 6 false false true (.byte .adcIzx),
  noEntry .jam62,
  opRow .RRA .indirectX .indirectX 2 8 false false false (.byte .rraIzx),
  opRow .NOP .zeroPage .zeroPage 2 3 false false false (.byte .nopZp64),
  opRow .ADC .zeroPage .zeroPage 2 3 false false true (.byte .adcZp),
  opRow .ROR .zeroPage .zeroPage 2 5 false false true (.byte .rorZp),
  opRow .RRA .zeroPage .zeroPage 2 5 false false false (.byte .rraZp),
  opRow .PLA .implied .noneAddressing 1 4 false false true (.plain .pla),
  opRow .ADC .immediate .immediate 2 2 false false true (.byte .adcImm),
  opRow .ROR .accumulator .noneAddressing 1 2 false false true (.plain .rorAcc),
  opRow .ARR .immediate .immediate 2 2 false false false (.byte .arrImm),
  opRow .JMP .indirect .noneAddressing 3 5 false false true (.word .jmpInd),
  opRow .ADC .absolute .absolute 3 4 false false true (.word .adcAbs),
  opRow .ROR .absolute .absolute 3 6 false false true (.word .rorAbs),
  opRow .RRA .absolute .absolute 3 6 false false false (.word .rraAbs)]

/-- Row 7x of the map of rule R106. -/
def opTable7 : List OpRow := [
  opRow .BVS .relative .noneAddressing 2 2 true true true (.byte .bvs),
  opRow .ADC .indirectY .indirectY 2 5 false true true (.byte .adcIzy),
  noEntry .jam72,
  opRow .RRA .indirectY .indirectY 2 8 false false false (.byte .rraIzy),
  opRow .NOP .zeroPageX .zeroPageX 2 4 false false false (.byte .nopZpx74),
  opRow .ADC .zeroPageX .zeroPageX 2 4 false false true (.byte .adcZpx),
  opRow .ROR .zeroPageX .zeroPageX 2 6 false false true (.byte .rorZpx),
  opRow .RRA .zeroPageX .zeroPageX 2 6 false false false (.byte .rraZpx),
  opRow .SEI .implied .noneAddressing 1 2 false false true (.plain .sei),
  opRow .ADC .absoluteY .absoluteY 3 4 false true true (.word .adcAby),
  opRow .NOP .implied .noneAddressing 1 2 false false false (.plain .nop7A),
  opRow .RRA .absoluteY .absoluteY 3 7 false false false (.word .rraAby),
  opRow .NOP .absoluteX .absoluteX 3 4 false true false (.word .nopAbx7C),
  opRow .ADC .absoluteX .absoluteX 3 4 false true true (.word .adcAbx),
  opRow .ROR .absoluteX .absoluteX 3 7 false false true (.word .rorAbx),
  opRow .RRA .absoluteX .absoluteX 3 7 false false false (.word .rraAbx)]

/-- Row 8x of the map of rule R106. -/
def opTable8 : List OpRow := [
  opRow .NOP .immediate .immediate 2 2 false false false (.byte .nopImm80),
  opRow .STA .indirectX .indirectX 2 6 false false true (.byte .staIzx),
  opRow .NOP .immediate .immediate 2 2 false false false (.byte .nopImm82),
  opRow .SAX .indirectX .indirectX 2 6 false false false (.byte .saxIzx),
  opRow .STY .zeroPage .zeroPage 2 3 false false true (.byte .styZp),
  opRow .STA .zeroPage .zeroPage 2 3 false false true (.byte .staZp),
  opRow .STX .zeroPage .zeroPage 2 3 false false true (.byte .stxZp),
  opRow .SAX .zeroPage .zeroPage 2 3 false false false (.byte .saxZp),
  opRow .DEY .implied .noneAddressing 1 2 false false true (.plain .dey),
  opRow .NOP .immediate .immediate 2 2 false false false (.byte .nopImm89),
  opRow .TXA .implied .noneAddressing 1 2 false false true (.plain .txa),
  noEntry .xaa8B,
  opRow .STY .absolute .absolute 3 4 false false true (.word .styAbs),
  opRow .STA .absolute .absolute 3 4 false false true (.word .staAbs),
  opRow .STX .absolute .absolute 3 4 false false true (.word .stxAbs),
  opRow .SAX .absolute .absolute 3 4 false false false (.word .saxAbs)]

/-- Row 9x of the map of rule R106. -/
def opTable9 : List OpRow := [
  opRow .BCC .relative .noneAddressing 2 2 true true true (.byte .bcc),
  opRow .STA .indirectY .indirectY 2 6 false false true (.byte .staIzy),
  noEntry .jam92,
  noEntry .ahx93,
  opRow .STY .zeroPageX .zeroPageX 2 4 false false true (.byte .styZpx),
  opRow .STA .zeroPageX .zeroPageX 2 4 false false true (.byte .staZpx),
  opRow .STX .zeroPageY .zeroPageY 2 4 false false true (.byte .stxZpy),
  opRow .SAX .zeroPageY .zeroPageY 2 4 false false false (.byte .saxZpy),
  opRow .TYA .implied .noneAddressing 1 2 false false true (.plain .tya),
  opRow .STA .absoluteY .absoluteY 3 5 false false true (.word .staAby),
  opRow .TXS .implied .noneAddressing 1 2 false false true (.plain .txs),
  noEntry .tas9B,
  noEntry .shy9C,
  opRow .STA .absoluteX .absoluteX 3 5 false false true (.word .staAbx),
  noEntry .shx9E,
  noEntry .ahx9F]

/-- Row Ax of the map of rule R106. -/
def opTableA : List OpRow := [
  opRow .LDY .immediate .immediate 2 2 false false true (.byte .ldyImm),
  opRow .LDA .indirectX .indirectX 2 6 false false true (.byte .ldaIzx),
  opRow .LDX .immediate .immediate 2 2 false false true (.byte .ldxImm),
  opRow .LAX .indirectX .indirectX 2 6 false false false (.byte .laxIzx),
  opRow .LDY .zeroPage .zeroPage 2 3 false false true (.byte .ldyZp),
  opRow .LDA .zeroPage .zeroPage 2 3 false false true (.byte .ldaZp),
  opRow .LDX .zeroPage .zeroPage 2 3 false false true (.byte .ldxZp),
  opRow .LAX .zeroPage .zeroPage 2 3 false false false (.byte .laxZp),
  opRow .TAY .implied .noneAddressing 1 2 false false true (.plain .tay),
  opRow .LDA .immediate .immediate 2 2 false false true (.byte .ldaImm),
  opRow .TAX .implied .noneAddressing 1 2 false false true (.plain .tax),
  noEntry .lxaAB,
  opRow .LDY .absolute .absolute 3 4 false false true (.word .ldyAbs),
  opRow .LDA .absolute .absolute 3 4 false false true (.word .ldaAbs),
  opRow .LDX .absolute .absolute 3 4 false false true (.word .ldxAbs),
  opRow .LAX .absolute .absolute 3 4 false false false (.word .laxAbs)]

/-- Row Bx of the map of rule R106. -/
def opTableB : List OpRow := [
  opRow .BCS .relative .noneAddressing 2 2 true true true (.byte .bcs),
  opRow .LDA .indirectY .indirectY 2 5 false true true (.byte .ldaIzy),
  noEntry .jamB2,
  opRow .LAX .indirectY .indirectY 2 5 false true false (.byte .laxIzy),
  opRow .LDY .zeroPageX .zeroPageX 2 4 false false true (.byte .ldyZpx),
  opRow .LDA .zeroPageX .zeroPageX 2 4 false false true (.byte .ldaZpx),
  opRow .LDX .zeroPageY .zeroPageY 2 4 false false true (.byte .ldxZpy),
  opRow .LAX .zeroPageY .zeroPageY 2 4 false false false (.byte .laxZpy),
  opRow .CLV .implied .noneAddressing 1 2 false false true (.plain .clv),
  opRow .LDA .absoluteY .absoluteY 3 4 false true true (.word .ldaAby),
  opRow .TSX .implied .noneAddressing 1 2 false false true (.plain .tsx),
  noEntry .lasBB,
  opRow .LDY .absoluteX .absoluteX 3 4 false true true (.word .ldyAbx),
  opRow .LDA .absoluteX .absoluteX 3 4 false true true (.word .ldaAbx),
  opRow .LDX .absoluteY .absoluteY 3 4 false true true (.word .ldxAby),
  opRow .LAX .absoluteY .absoluteY 3 4 false true false (.word .laxAby)]

/-- Row Cx of the map of rule R106. -/
def opTableC : List OpRow := [
  opRow .CPY .immediate .immediate 2 2 false false true (.byte .cpyImm),
  opRow .CMP .indirectX .indirectX 2 6 false false true (.byte .cmpIzx),
  opRow .NOP .immediate .immediate 2 2 false false false (.byte .nopImmC2),
  opRow .DCP .indirectX .indirectX 2 8 false false false (.byte .dcpIzx),
  opRow .CPY .zeroPage .zeroPage 2 3 false false true (.byte .cpyZp),
  opRow .CMP .zeroPage .zeroPage 2 3 false false true (.byte .cmpZp),
  opRow .DEC .zeroPage .zeroPage 2 5 false false true (.byte .decZp),
  opRow .DCP .zeroPage .zeroPage 2 5 false false false (.byte .dcpZp),
  opRow .INY .implied .noneAddressing 1 2 false false true (.plain .iny),
  opRow .CMP .immediate .immediate 2 2 false false true (.byte .cmpImm),
  opRow .DEX .implied .noneAddressing 1 2 false false true (.plain .dex),
  opRow .AXS .immediate .immediate 2 2 false false false (.byte .axsImm),
  opRow .CPY .absolute .absolute 3 4 false false true (.word .cpyAbs),
  opRow .CMP .absolute .absolute 3 4 false false true (.word .cmpAbs),
  opRow .DEC .absolute .absolute 3 6 false false true (.word .decAbs),
  opRow .DCP .absolute .absolute 3 6 false false false (.word .dcpAbs)]

/-- Row Dx of the map of rule R106. -/
def opTableD : List OpRow := [
  opRow .BNE .relative .noneAddressing 2 2 true true true (.byte .bne),
  opRow .CMP .indirectY .indirectY 2 5 false true true (.byte .cmpIzy),
  noEntry .jamD2,
  opRow .DCP .indirectY .indirectY 2 8 false false false (.byte .dcpIzy),
  opRow .NOP .zeroPageX .zeroPageX 2 4 false false false (.byte .nopZpxD4),
  opRow .CMP .zeroPageX .zeroPageX 2 4 false false true (.byte .cmpZpx),
  opRow .DEC .zeroPageX .zeroPageX 2 6 false false true (.byte .decZpx),
  opRow .DCP .zeroPageX .zeroPageX 2 6 false false false (.byte .dcpZpx),
  opRow .CLD .implied .noneAddressing 1 2 false false true (.plain .cld),
  opRow .CMP .absoluteY .absoluteY 3 4 false true true (.word .cmpAby),
  opRow .NOP .implied .noneAddressing 1 2 false false false (.plain .nopDA),
  opRow .DCP .absoluteY .absoluteY 3 7 false false false (.word .dcpAby),
  opRow .NOP .absoluteX .absoluteX 3 4 false true false (.word .nopAbxDC),
  opRow .CMP .absoluteX .absoluteX 3 4 false true true (.word .cmpAbx),
  opRow .DEC .absoluteX .absoluteX 3 7 false false true (.word .decAbx),
  opRow .DCP .absoluteX .absoluteX 3 7 false false false (.word .dcpAbx)]

/-- Row Ex of the map of rule R106. -/
def opTableE : List OpRow := [
  opRow .CPX .immediate .immediate 2 2 false false true (.byte .cpxImm),
  opRow .SBC .indirectX .indirectX 2 6 false false true (.byte .sbcIzx),
  opRow .NOP .immediate .immediate 2 2 false false false (.byte .nopImmE2),
  opRow .ISB .indirectX .indirectX 2 8 false false false (.byte .isbIzx),
  opRow .CPX .zeroPage .zeroPage 2 3 false false true (.byte .cpxZp),
  opRow .SBC .zeroPage .zeroPage 2 3 false false true (.byte .sbcZp),
  opRow .INC .zeroPage .zeroPage 2 5 false false true (.byte .incZp),
  opRow .ISB .zeroPage .zeroPage 2 5 false false false (.byte .isbZp),
  opRow .INX .implied .noneAddressing 1 2 false false true (.plain .inx),
  opRow .SBC .immediate .immediate 2 2 false false true (.byte .sbcImm),
  opRow .NOP .implied .noneAddressing 1 2 false false true (.plain .nop),
  opRow .SBC .immediate .immediate 2 2 false false false (.byte .sbcImmEB),
  opRow .CPX .absolute .absolute 3 4 false false true (.word .cpxAbs),
  opRow .SBC .absolute .absolute 3 4 false false true (.word .sbcAbs),
  opRow .INC .absolute .absolute 3 6 false false true (.word .incAbs),
  opRow .ISB .absolute .absolute 3 6 false false false (.word .isbAbs)]

/-- Row Fx of the map of rule R106. -/
def opTableF : List OpRow := [
  opRow .BEQ .relative .noneAddressing 2 2 true true true (.byte .beq),
  opRow .SBC .indirectY .indirectY 2 5 false true true (.byte .sbcIzy),
  noEntry .jamF2,
  opRow .ISB .indirectY .indirectY 2 8 false false false (.byte .isbIzy),
  opRow .NOP .zeroPageX .zeroPageX 2 4 false false false (.byte .nopZpxF4),
  opRow .SBC .zeroPageX .zeroPageX 2 4 false false true (.byte .sbcZpx),
  opRow .INC .zeroPageX .zeroPageX 2 6 false false true (.byte .incZpx),
  opRow .ISB .zeroPageX .zeroPageX 2 6 false false false (.byte .isbZpx),
  opRow .SED .implied .noneAddressing 1 2 false false true (.plain .sed),
  opRow .SBC .absoluteY .absoluteY 3 4 false true true (.word .sbcAby),
  opRow .NOP .implied .noneAddressing 1 2 false false false (.plain .nopFA),
  opRow .ISB .absoluteY .absoluteY 3 7 false false false (.word .isbAby),
  opRow .NOP .absoluteX .absoluteX 3 4 false true false (.word .nopAbxFC),
  opRow .SBC .absoluteX .absoluteX 3 4 false true true (.word .sbcAbx),
  opRow .INC .absoluteX .absoluteX 3 7 false false true (.word .incAbx),
  opRow .ISB .absoluteX .absoluteX 3 7 false false false (.word .isbAbx)]

/-- OPTABLE, 256 rows in byte order. -/
def opTable : List OpRow :=
  opTable0 ++ opTable1 ++ opTable2 ++ opTable3 ++ opTable4 ++ opTable5 ++ opTable6 ++ opTable7 ++
  opTable8 ++ opTable9 ++ opTableA ++ opTableB ++ opTableC ++ opTableD ++ opTableE ++ opTableF

/-- The row of an opcode byte. The table has 256 rows, so the default is never taken. -/
def opRowOf (op : Byte) : OpRow := opTable.getD op.toNat (noEntry .jam02)

/-- How many operand bytes the form has: the instruction's length less one. -/
def OperandForm.count : OperandForm → Nat
  | .plain _ => 0
  | .byte _ => 1
  | .word _ => 2

/-- The instruction the form makes of the bytes after the opcode; a form ignores the bytes it does not have. -/
def OperandForm.build (b1 b2 : Byte) : OperandForm → Instr
  | .plain i => i
  | .byte f => f b1
  | .word f => f (joinBytes b2 b1)

/-! ### The decoder -/

/-- Why bytes are no instruction: there is no opcode byte, or operand bytes of the opcode are missing. -/
inductive DecodeError
  | noOpcode
  | missingOperand (op : Byte)
  deriving DecidableEq, Repr

/-- The first instruction of a list of bytes, and the bytes after it (rules R80, R81, R103). -/
def decode : List Byte → Except DecodeError (Instr × List Byte)
  | [] => .error .noOpcode
  | op :: rest =>
    match (opRowOf op).form, rest with
    | .plain i, rest => .ok (i, rest)
    | .byte f, b1 :: rest => .ok (f b1, rest)
    | .word f, b1 :: b2 :: rest => .ok (f (joinBytes b2 b1), rest)
    | _, _ => .error (.missingOperand op)

/-- The three bytes of a table word, first byte first: bit 0 of `w` is the least significant bit of the first byte,
and every bit above `nbits` is 0. -/
def tableWordBytes (nbits w : Nat) : List Byte :=
  let w := w % 2 ^ nbits
  [BitVec.ofNat 8 w, BitVec.ofNat 8 (w / 256), BitVec.ofNat 8 (w / 65536)]

/-- The instruction the decoder reads from an instruction whose bits are `w`, numbered as spec/opcode_table.json
numbers them. -/
def decodeTableWord (nbits w : Nat) : Option Instr :=
  match decode (tableWordBytes nbits w) with
  | .ok (i, _) => some i
  | .error _ => none

/-! ### The encoder -/

/-- The bytes of an instruction: the opcode byte of its row (the Encoding line of its rule), then its operand bytes,
low byte first. -/
def encode : Instr → List Byte
  | .brk => [0x00]
  | .oraIzx b => [0x01, b]
  | .jam02 => [0x02]
  | .sloIzx b => [0x03, b]
  | .nopZp04 b => [0x04, b]
  | .oraZp b => [0x05, b]
  | .aslZp b => [0x06, b]
  | .sloZp b => [0x07, b]
  | .php => [0x08]
  | .oraImm v => [0x09, v]
  | .aslAcc => [0x0A]
  | .ancImm0B v => [0x0B, v]
  | .nopAbs w => [0x0C, lowByte w, highByte w]
  | .oraAbs w => [0x0D, lowByte w, highByte w]
  | .aslAbs w => [0x0E, lowByte w, highByte w]
  | .sloAbs w => [0x0F, lowByte w, highByte w]
  | .bpl off => [0x10, off]
  | .oraIzy b => [0x11, b]
  | .jam12 => [0x12]
  | .sloIzy b => [0x13, b]
  | .nopZpx14 b => [0x14, b]
  | .oraZpx b => [0x15, b]
  | .aslZpx b => [0x16, b]
  | .sloZpx b => [0x17, b]
  | .clc => [0x18]
  | .oraAby w => [0x19, lowByte w, highByte w]
  | .nop1A => [0x1A]
  | .sloAby w => [0x1B, lowByte w, highByte w]
  | .nopAbx1C w => [0x1C, lowByte w, highByte w]
  | .oraAbx w => [0x1D, lowByte w, highByte w]
  | .aslAbx w => [0x1E, lowByte w, highByte w]
  | .sloAbx w => [0x1F, lowByte w, highByte w]
  | .jsr w => [0x20, lowByte w, highByte w]
  | .andIzx b => [0x21, b]
  | .jam22 => [0x22]
  | .rlaIzx b => [0x23, b]
  | .bitZp b => [0x24, b]
  | .andZp b => [0x25, b]
  | .rolZp b => [0x26, b]
  | .rlaZp b => [0x27, b]
  | .plp => [0x28]
  | .andImm v => [0x29, v]
  | .rolAcc => [0x2A]
  | .ancImm2B v => [0x2B, v]
  | .bitAbs w => [0x2C, lowByte w, highByte w]
  | .andAbs w => [0x2D, lowByte w, highByte w]
  | .rolAbs w => [0x2E, lowByte w, highByte w]
  | .rlaAbs w => [0x2F, lowByte w, highByte w]
  | .bmi off => [0x30, off]
  | .andIzy b => [0x31, b]
  | .jam32 => [0x32]
  | .rlaIzy b => [0x33, b]
  | .nopZpx34 b => [0x34, b]
  | .andZpx b => [0x35, b]
  | .rolZpx b => [0x36, b]
  | .rlaZpx b => [0x37, b]
  | .sec => [0x38]
  | .andAby w => [0x39, lowByte w, highByte w]
  | .nop3A => [0x3A]
  | .rlaAby w => [0x3B, lowByte w, highByte w]
  | .nopAbx3C w => [0x3C, lowByte w, highByte w]
  | .andAbx w => [0x3D, lowByte w, highByte w]
  | .rolAbx w => [0x3E, lowByte w, highByte w]
  | .rlaAbx w => [0x3F, lowByte w, highByte w]
  | .rti => [0x40]
  | .eorIzx b => [0x41, b]
  | .jam42 => [0x42]
  | .sreIzx b => [0x43, b]
  | .nopZp44 b => [0x44, b]
  | .eorZp b => [0x45, b]
  | .lsrZp b => [0x46, b]
  | .sreZp b => [0x47, b]
  | .pha => [0x48]
  | .eorImm v => [0x49, v]
  | .lsrAcc => [0x4A]
  | .alrImm v => [0x4B, v]
  | .jmpAbs w => [0x4C, lowByte w, highByte w]
  | .eorAbs w => [0x4D, lowByte w, highByte w]
  | .lsrAbs w => [0x4E, lowByte w, highByte w]
  | .sreAbs w => [0x4F, lowByte w, highByte w]
  | .bvc off => [0x50, off]
  | .eorIzy b => [0x51, b]
  | .jam52 => [0x52]
  | .sreIzy b => [0x53, b]
  | .nopZpx54 b => [0x54, b]
  | .eorZpx b => [0x55, b]
  | .lsrZpx b => [0x56, b]
  | .sreZpx b => [0x57, b]
  | .cli => [0x58]
  | .eorAby w => [0x59, lowByte w, highByte w]
  | .nop5A => [0x5A]
  | .sreAby w => [0x5B, lowByte w, highByte w]
  | .nopAbx5C w => [0x5C, lowByte w, highByte w]
  | .eorAbx w => [0x5D, lowByte w, highByte w]
  | .lsrAbx w => [0x5E, lowByte w, highByte w]
  | .sreAbx w => [0x5F, lowByte w, highByte w]
  | .rts => [0x60]
  | .adcIzx b => [0x61, b]
  | .jam62 => [0x62]
  | .rraIzx b => [0x63, b]
  | .nopZp64 b => [0x64, b]
  | .adcZp b => [0x65, b]
  | .rorZp b => [0x66, b]
  | .rraZp b => [0x67, b]
  | .pla => [0x68]
  | .adcImm v => [0x69, v]
  | .rorAcc => [0x6A]
  | .arrImm v => [0x6B, v]
  | .jmpInd w => [0x6C, lowByte w, highByte w]
  | .adcAbs w => [0x6D, lowByte w, highByte w]
  | .rorAbs w => [0x6E, lowByte w, highByte w]
  | .rraAbs w => [0x6F, lowByte w, highByte w]
  | .bvs off => [0x70, off]
  | .adcIzy b => [0x71, b]
  | .jam72 => [0x72]
  | .rraIzy b => [0x73, b]
  | .nopZpx74 b => [0x74, b]
  | .adcZpx b => [0x75, b]
  | .rorZpx b => [0x76, b]
  | .rraZpx b => [0x77, b]
  | .sei => [0x78]
  | .adcAby w => [0x79, lowByte w, highByte w]
  | .nop7A => [0x7A]
  | .rraAby w => [0x7B, lowByte w, highByte w]
  | .nopAbx7C w => [0x7C, lowByte w, highByte w]
  | .adcAbx w => [0x7D, lowByte w, highByte w]
  | .rorAbx w => [0x7E, lowByte w, highByte w]
  | .rraAbx w => [0x7F, lowByte w, highByte w]
  | .nopImm80 v => [0x80, v]
  | .staIzx b => [0x81, b]
  | .nopImm82 v => [0x82, v]
  | .saxIzx b => [0x83, b]
  | .styZp b => [0x84, b]
  | .staZp b => [0x85, b]
  | .stxZp b => [0x86, b]
  | .saxZp b => [0x87, b]
  | .dey => [0x88]
  | .nopImm89 v => [0x89, v]
  | .txa => [0x8A]
  | .xaa8B => [0x8B]
  | .styAbs w => [0x8C, lowByte w, highByte w]
  | .staAbs w => [0x8D, lowByte w, highByte w]
  | .stxAbs w => [0x8E, lowByte w, highByte w]
  | .saxAbs w => [0x8F, lowByte w, highByte w]
  | .bcc off => [0x90, off]
  | .staIzy b => [0x91, b]
  | .jam92 => [0x92]
  | .ahx93 => [0x93]
  | .styZpx b => [0x94, b]
  | .staZpx b => [0x95, b]
  | .stxZpy b => [0x96, b]
  | .saxZpy b => [0x97, b]
  | .tya => [0x98]
  | .staAby w => [0x99, lowByte w, highByte w]
  | .txs => [0x9A]
  | .tas9B => [0x9B]
  | .shy9C => [0x9C]
  | .staAbx w => [0x9D, lowByte w, highByte w]
  | .shx9E => [0x9E]
  | .ahx9F => [0x9F]
  | .ldyImm v => [0xA0, v]
  | .ldaIzx b => [0xA1, b]
  | .ldxImm v => [0xA2, v]
  | .laxIzx b => [0xA3, b]
  | .ldyZp b => [0xA4, b]
  | .ldaZp b => [0xA5, b]
  | .ldxZp b => [0xA6, b]
  | .laxZp b => [0xA7, b]
  | .tay => [0xA8]
  | .ldaImm v => [0xA9, v]
  | .tax => [0xAA]
  | .lxaAB => [0xAB]
  | .ldyAbs w => [0xAC, lowByte w, highByte w]
  | .ldaAbs w => [0xAD, lowByte w, highByte w]
  | .ldxAbs w => [0xAE, lowByte w, highByte w]
  | .laxAbs w => [0xAF, lowByte w, highByte w]
  | .bcs off => [0xB0, off]
  | .ldaIzy b => [0xB1, b]
  | .jamB2 => [0xB2]
  | .laxIzy b => [0xB3, b]
  | .ldyZpx b => [0xB4, b]
  | .ldaZpx b => [0xB5, b]
  | .ldxZpy b => [0xB6, b]
  | .laxZpy b => [0xB7, b]
  | .clv => [0xB8]
  | .ldaAby w => [0xB9, lowByte w, highByte w]
  | .tsx => [0xBA]
  | .lasBB => [0xBB]
  | .ldyAbx w => [0xBC, lowByte w, highByte w]
  | .ldaAbx w => [0xBD, lowByte w, highByte w]
  | .ldxAby w => [0xBE, lowByte w, highByte w]
  | .laxAby w => [0xBF, lowByte w, highByte w]
  | .cpyImm v => [0xC0, v]
  | .cmpIzx b => [0xC1, b]
  | .nopImmC2 v => [0xC2, v]
  | .dcpIzx b => [0xC3, b]
  | .cpyZp b => [0xC4, b]
  | .cmpZp b => [0xC5, b]
  | .decZp b => [0xC6, b]
  | .dcpZp b => [0xC7, b]
  | .iny => [0xC8]
  | .cmpImm v => [0xC9, v]
  | .dex => [0xCA]
  | .axsImm v => [0xCB, v]
  | .cpyAbs w => [0xCC, lowByte w, highByte w]
  | .cmpAbs w => [0xCD, lowByte w, highByte w]
  | .decAbs w => [0xCE, lowByte w, highByte w]
  | .dcpAbs w => [0xCF, lowByte w, highByte w]
  | .bne off => [0xD0, off]
  | .cmpIzy b => [0xD1, b]
  | .jamD2 => [0xD2]
  | .dcpIzy b => [0xD3, b]
  | .nopZpxD4 b => [0xD4, b]
  | .cmpZpx b => [0xD5, b]
  | .decZpx b => [0xD6, b]
  | .dcpZpx b => [0xD7, b]
  | .cld => [0xD8]
  | .cmpAby w => [0xD9, lowByte w, highByte w]
  | .nopDA => [0xDA]
  | .dcpAby w => [0xDB, lowByte w, highByte w]
  | .nopAbxDC w => [0xDC, lowByte w, highByte w]
  | .cmpAbx w => [0xDD, lowByte w, highByte w]
  | .decAbx w => [0xDE, lowByte w, highByte w]
  | .dcpAbx w => [0xDF, lowByte w, highByte w]
  | .cpxImm v => [0xE0, v]
  | .sbcIzx b => [0xE1, b]
  | .nopImmE2 v => [0xE2, v]
  | .isbIzx b => [0xE3, b]
  | .cpxZp b => [0xE4, b]
  | .sbcZp b => [0xE5, b]
  | .incZp b => [0xE6, b]
  | .isbZp b => [0xE7, b]
  | .inx => [0xE8]
  | .sbcImm v => [0xE9, v]
  | .nop => [0xEA]
  | .sbcImmEB v => [0xEB, v]
  | .cpxAbs w => [0xEC, lowByte w, highByte w]
  | .sbcAbs w => [0xED, lowByte w, highByte w]
  | .incAbs w => [0xEE, lowByte w, highByte w]
  | .isbAbs w => [0xEF, lowByte w, highByte w]
  | .beq off => [0xF0, off]
  | .sbcIzy b => [0xF1, b]
  | .jamF2 => [0xF2]
  | .isbIzy b => [0xF3, b]
  | .nopZpxF4 b => [0xF4, b]
  | .sbcZpx b => [0xF5, b]
  | .incZpx b => [0xF6, b]
  | .isbZpx b => [0xF7, b]
  | .sed => [0xF8]
  | .sbcAby w => [0xF9, lowByte w, highByte w]
  | .nopFA => [0xFA]
  | .isbAby w => [0xFB, lowByte w, highByte w]
  | .nopAbxFC w => [0xFC, lowByte w, highByte w]
  | .sbcAbx w => [0xFD, lowByte w, highByte w]
  | .incAbx w => [0xFE, lowByte w, highByte w]
  | .isbAbx w => [0xFF, lowByte w, highByte w]

/-- The length of an instruction in bytes: 1, 2 or 3 (rules R80, R82). -/
def Instr.length (i : Instr) : Nat := (encode i).length

/-- The opcode byte of an instruction. -/
def Instr.opcode (i : Instr) : Byte := (encode i).headD 0x00

/-- The table entry of an instruction, none for the twenty bytes of R107. -/
def Instr.entry (i : Instr) : Option OpEntry := (opRowOf i.opcode).entry

end Sys2Proof
end

