-- ==== Sys2Proof/Machine/Memory.lean ====
section
/-!
DEFINITION. Memory contents as a list of (address, byte) pairs in one canonical form: addresses strictly rising, and no
entry equal to what an unlisted address reads as. Equal contents are then equal lists.
-/

namespace Sys2Proof.Memory

/-- What an unlisted cell reads as: 0x00. The spec gives RAM no initial content (`MEM0` is a launch parameter, R63,
D23), so this is a DESIGN CHOICE, unsafe (log entry 3). For the bytes of a program ROM it is how the list is read
(log entry 21). -/
def unlisted : Byte := 0x00

/-- The byte at a key. -/
def readCell : Memory → Nat → Byte
  | [], _ => unlisted
  | (k, v) :: m, j => if k = j then v else readCell m j

/-- Put a byte in front of a list whose keys are all above: no entry for the value an unlisted cell reads as. -/
def consCell (k : Nat) (v : Byte) (m : Memory) : Memory := if v = unlisted then m else (k, v) :: m

/-- Write a byte at a key, keeping the canonical form. -/
def writeCell : Memory → Nat → Byte → Memory
  | [], j, w => consCell j w []
  | (k, v) :: m, j, w =>
    if j < k then consCell j w ((k, v) :: m)
    else if j = k then consCell j w m
    else (k, v) :: writeCell m j w

/-- The canonical form, all keys being at least `lo` and below `hi`. -/
def wfFrom (lo hi : Nat) : Memory → Bool
  | [] => true
  | (k, v) :: m => decide (lo ≤ k) && decide (k < hi) && (v != unlisted) && wfFrom (k + 1) hi m

/-- The canonical form of the contents of the 65536-byte address space (R50). -/
def wf (m : Memory) : Bool := wfFrom 0 65536 m

end Sys2Proof.Memory
end

