-- ==== Sys2Proof/Machine/Bus.lean ====
section
/-!
DEFINITION. The bus (rules R50 to R66): routing through the two fixed windows and the attached regions, the three
devices, the byte and wide accesses, and `attach`.
-/

namespace Sys2Proof.Machine

/-- Does the region's closed interval hold the address (R55)? -/
def Region.covers (r : Region) (a : Addr) : Bool := decide (r.first ≤ a) && decide (a ≤ r.last)

/-- The device an address is routed to, and the address it is handed (R52, D17). -/
inductive Route
  | device (d : Device) (a : Addr)
  /-- A soft miss (R56). -/
  | unmapped
  /-- The PPU window with no PPU device (R54). -/
  | ppuAbsent
  deriving DecidableEq, Repr

/-- Region lookup: the first region in attach order that holds the address (R55). -/
def regionRoute (regions : List Region) (a : Addr) : Route :=
  match regions.find? (fun r => Region.covers r a) with
  | some r => .device r.device a
  | none => .unmapped

/-- The PPU window (R54), the address being masked already. -/
def ppuRoute (ppu : Option Device) (a : Addr) : Route :=
  match ppu with
  | some d => .device d a
  | none => .ppuAbsent

/-- The routing of rule R52. -/
def route (cfg : Config) (addr : Addr) : Route :=
  if addr ≤ 0x1FFF then regionRoute cfg.regions (addr &&& 0x07FF)
  else if addr ≤ 0x3FFF then ppuRoute cfg.ppuDevice (addr &&& 0x2007)
  else regionRoute cfg.regions addr

/-- A ROM device's `read(a)` (R64): one page is mirrored by `(a - 0x8000) mod 0x4000`, which names a byte for every
address; two pages hold `a - 0x8000`, and below 0x8000 that is no offset: the value is free (log entry 10). -/
def romRead (pages : RomPages) (prg : Memory) (a : Addr) : Byte :=
  match pages with
  | .one => Memory.readCell prg (((a.toNat : Int) - 0x8000) % 0x4000).toNat
  | .two => if a < 0x8000 then Config.romUnstated prg a else Memory.readCell prg (a.toNat - 0x8000)

/-- A device's `read(a)` (R51, R63, R64): no read of a device is fatal. -/
def deviceRead (mem : Memory) (d : Device) (a : Addr) : Byte :=
  match d with
  | .ram => Memory.readCell mem a.toNat
  | .rom pages prg => romRead pages prg a
  | .null => 0x00

/-- A device's `write(a, v)` (R51, R63, R64): the memory contents after it. -/
def deviceWrite (mem : Memory) (d : Device) (a : Addr) (v : Byte) : Except Fault Memory :=
  match d with
  | .ram => .ok (Memory.writeCell mem a.toNat v)
  | .rom _ _ => .error (.romWrite a)
  | .null => .ok mem

/-- `MemRead(addr, 1)` (R52). -/
def memRead (s : State) (addr : Addr) : Except Fault Byte :=
  match route s.cfg addr with
  | .device d a => .ok (deviceRead s.mem d a)
  | .unmapped => .ok 0x00
  | .ppuAbsent => .error (.ppuAccess addr)

/-- `MemWrite(addr, 1, v)` (R53). -/
def memWrite (s : State) (addr : Addr) (v : Byte) : Except Fault State :=
  match route s.cfg addr with
  | .device d a => (deviceWrite s.mem d a v).map fun m => { s with mem := m }
  | .unmapped => .ok s
  | .ppuAbsent => .error (.ppuAccess addr)

/-- Two byte reads, low byte first, and the word they make. -/
def readPair (s : State) (lowAddr highAddr : Addr) : Except Fault Addr := do
  let lo ← memRead s lowAddr
  let hi ← memRead s highAddr
  return joinBytes hi lo

/-- `MemRead(addr, 2)` (R57): the second address wraps from 0xFFFF to 0x0000. -/
def memReadWide (s : State) (addr : Addr) : Except Fault Addr := readPair s addr (addr + 1)

/-- `MemWrite(addr, 2, w)` (R58). No instruction uses it; the loader does. -/
def memWriteWide (s : State) (addr : Addr) (w : Addr) : Except Fault State := do
  let s1 ← memWrite s addr (lowByte w)
  memWrite s1 (addr + 1) (highByte w)

/-- `attach(start, end, device)` (R61): fails if an end of the new region lies in an attached one; start above end is
undefined (R62) and refused. -/
def attach (regions : List Region) (r : Region) : Host.Outcome (List Region) Fault Refusal :=
  if r.last < r.first then .refused .invertedRegion
  else if regions.any (fun q => Region.covers q r.first || Region.covers q r.last) then .fault .regionConflict
  else .next (regions ++ [r])

end Sys2Proof.Machine
end

