-- ==== Sys2Proof/Machine/Operands.lean ====
section
/-!
DEFINITION. The addressing-mode resolver (rules R90 to R100, R103) and the two operand forms handlers make for
themselves, Relative (R101) and Indirect (R102, R210).

A meaning runs in the state before the step, where `PC` is `opaddr`; the spec's handlers run with `PC = opaddr + 1`.
The operand bytes stand in the instruction, read by the fetch in the spec's order (Machine/Fetch.lean).
-/

namespace Sys2Proof.Machine

/-- A u8 as an address of the zero page (R92). -/
def zeroPage (b : Byte) : Addr := b.setWidth 16

/-- The whole length of an instruction with this operand (R82). -/
def operandSize : Operand → Addr
  | .noneAddressing => 1
  | .imm _ | .zp _ | .zpx _ | .zpy _ | .izx _ | .izy _ => 2
  | .abs _ | .abx _ | .aby _ => 3

/-- Where Indirect_Y takes its pointer's high byte from (R99, `INDY_ZP_WRAP`). -/
def indirectYHighAddr (cfg : Config) (ptr : Byte) : Addr :=
  if cfg.indyZpWrap then zeroPage (ptr + 1) else zeroPage ptr + 1

/-- `get_operand_address(mode)`, the effective address (R91 to R100). -/
def effectiveAddress (o : Operand) (s : State) : Except Fault Addr :=
  match o with
  | .imm _ => .ok (s.pc + 1)
  | .zp b => .ok (zeroPage b)
  | .zpx b => .ok (zeroPage (b + s.x))
  | .zpy b => .ok (zeroPage (b + s.y))
  | .abs w => .ok w
  | .abx w => .ok (w + s.x.setWidth 16)
  | .aby w => .ok (w + s.y.setWidth 16)
  | .izx b => readPair s (zeroPage (b + s.x)) (zeroPage (b + s.x + 1))
  | .izy b => (readPair s (zeroPage b) (indirectYHighAddr s.cfg b)).map fun w => w + s.y.setWidth 16
  | .noneAddressing => .error .unsupportedAddressingMode

/-- The operand of a reading instruction, `MemRead(ea(mode), 1)` (R90); in the Immediate mode it is the byte after the
opcode (R91), which the fetch has read. -/
def operandValue (o : Operand) (s : State) : Except Fault Byte :=
  match o with
  | .imm v => .ok v
  | o => do
    let a ← effectiveAddress o s
    memRead s a

/-- The target of a branch (R200, R101): `opaddr + 2 + sext8(offset)`, wrapping. -/
def branchTarget (opaddr : Addr) (off : Byte) : Addr := wrap16 ((opaddr + 2).toNat + sext8 off)

/-- Where the indirect JMP takes its target's high byte from (R210): never from the next page. -/
def indirectHighAddr (ptr : Addr) : Addr := if lowByte ptr = 0xFF then ptr &&& 0xFF00 else ptr + 1

/-- The target of the indirect JMP (R210). -/
def indirectTarget (ptr : Addr) (s : State) : Except Fault Addr := readPair s ptr (indirectHighAddr ptr)

end Sys2Proof.Machine
end

