-- ==== Sys2Proof/Machine/Ops.lean ====
section
/-!
DEFINITION. The operations the meanings share: the registers, the program-counter rule (R84), the stack primitives
(R30 to R33), the only trap-like entry and its return (R274, R275), and the four shapes of a handler: read an operand,
write one, read-modify-write (R170, R74), and act on registers alone.
-/

namespace Sys2Proof.Machine

/-! ### Registers -/

/-- The four byte registers a program moves data through. -/
inductive Reg
  | a | x | y | sp
  deriving DecidableEq, Repr

/-- Read a register. -/
def State.reg (s : State) : Reg → Byte
  | .a => s.a
  | .x => s.x
  | .y => s.y
  | .sp => s.sp

/-- Write a register. -/
def State.setReg (s : State) (r : Reg) (v : Byte) : State :=
  match r with
  | .a => { s with a := v }
  | .x => { s with x := v }
  | .y => { s with y := v }
  | .sp => { s with sp := v }

/-- Write the program counter. -/
def State.setPc (s : State) (v : Addr) : State := { s with pc := v }

/-- Write the status register whole. -/
def State.setStatus (s : State) (v : Byte) : State := { s with p := v }

/-! ### The program counter -/

/-- `PC` after a step (R83, R84), from the state before it, the instruction's length, and the value the handler
assigned to `PC` if it assigned one. -/
def pcAfter (s : State) (len : Addr) (assigned : Option Addr) : Addr :=
  match assigned with
  | none => s.pc + len
  | some t =>
    match s.cfg.pcAlteredTest with
    | .value => if t = s.pc + 1 then s.pc + len else t
    | .assignment => t

/-- The end of a step whose handler may have assigned `PC`. -/
def finish (s : State) (len : Addr) (r : Except Fault (State × Option Addr)) : Result :=
  match r with
  | .ok (t, assigned) => .next (t.setPc (pcAfter s len assigned))
  | .error f => .fault f

/-- The end of a step whose handler does not assign `PC`. -/
def advance (s : State) (len : Addr) (r : Except Fault State) : Result := finish s len (r.map fun t => (t, none))

/-! ### The stack -/

/-- The address the stack pointer selects, in the stack page (R24). -/
def stackAddr (sp : Byte) : Addr := 0x0100 + sp.setWidth 16

/-- `push8(v)` (R30). -/
def push8 (v : Byte) (s : State) : Except Fault State :=
  (memWrite s (stackAddr s.sp) v).map fun t => { t with sp := s.sp - 1 }

/-- `pull8()` (R31): the byte, and the state after. -/
def pull8 (s : State) : Except Fault (Byte × State) :=
  (memRead s (stackAddr (s.sp + 1))).map fun v => (v, { s with sp := s.sp + 1 })

/-- `push16(w)` (R32): the high byte first. -/
def push16 (w : Addr) (s : State) : Except Fault State := do
  let s1 ← push8 (highByte w) s
  push8 (lowByte w) s1

/-- `pull16()` (R33): the low byte first. -/
def pull16 (s : State) : Except Fault (Addr × State) := do
  let (lo, s1) ← pull8 s
  let (hi, s2) ← pull8 s1
  return (joinBytes hi lo, s2)

/-! ### The trap-like entry and its return -/

/-- The only trap-like event (R274, R220): the flags are pushed with BREAK and BREAK2 forced; no register but `SP`, no
flag and no mode changes, and control goes nowhere. -/
def trapEntry (s : State) : Except Fault State := push8 (pushedStatus s.p) s

/-- The trap return (R275, R221): the flags, then the program counter, from three stack bytes. -/
def trapReturn (s : State) : Except Fault (State × Option Addr) := do
  let (v, s1) ← pull8 s
  let (w, s2) ← pull16 (s1.setStatus (restoredStatus v))
  return (s2, some w)

/-- A byte with no table entry (R246, R264): the byte and the address it was read from. -/
def raiseUnhandled (op : Byte) (s : State) : Result := .fault (.unhandledOpcode op s.pc)

/-! ### The shapes of a handler -/

/-- An instruction that touches registers only: one byte, no memory access after the fetch. -/
def registerOnly (f : State → State) (s : State) : Result := advance s 1 (.ok (f s))

/-- An instruction that reads its operand and then acts on registers and flags. -/
def withOperand (o : Operand) (f : Byte → State → State) (s : State) : Result :=
  advance s (operandSize o) ((operandValue o s).map fun v => f v s)

/-- A store: it does not read its target. -/
def storeAt (o : Operand) (v : Byte) (s : State) : Result :=
  advance s (operandSize o) (do
    let a ← effectiveAddress o s
    memWrite s a v)

/-- A read-modify-write instruction (R170, R74): one read and one write of the same address. `modify` gives the byte
written and the flags it sets before the write, `after` what follows the write. -/
def readModifyWrite (o : Operand) (modify : Byte → State → Byte × State) (after : Byte → State → State) (s : State) :
    Result :=
  advance s (operandSize o) (do
    let a ← effectiveAddress o s
    let v ← memRead s a
    let (r, s1) := modify v s
    let s2 ← memWrite s1 a r
    return after r s2)

/-- `r <- v; setZN(v)`. -/
def loadReg (r : Reg) (v : Byte) (s : State) : State := setZN v (s.setReg r v)

end Sys2Proof.Machine
end

