-- ==== Sys2Proof/Machine/Arith.lean ====
section
/-!
DEFINITION. The meanings of spec file 41: logic, add and subtract, compare, bit test, increment and decrement (rules R140 to R157).
-/

namespace Sys2Proof.Machine

/-- AND (R141). -/
def opAnd (o : Operand) (s : State) : Result := withOperand o (fun m s => accumulate (s.a &&& m) s) s

/-- 0x21 AND Indirect_X, R141. -/
def execAndIzx (b : Byte) (s : State) : Result := opAnd (.izx b) s

/-- 0x25 AND ZeroPage, R141. -/
def execAndZp (b : Byte) (s : State) : Result := opAnd (.zp b) s

/-- 0x29 AND Immediate, R141. -/
def execAndImm (v : Byte) (s : State) : Result := opAnd (.imm v) s

/-- 0x2D AND Absolute, R141. -/
def execAndAbs (w : Addr) (s : State) : Result := opAnd (.abs w) s

/-- 0x31 AND Indirect_Y, R141. -/
def execAndIzy (b : Byte) (s : State) : Result := opAnd (.izy b) s

/-- 0x35 AND ZeroPage_X, R141. -/
def execAndZpx (b : Byte) (s : State) : Result := opAnd (.zpx b) s

/-- 0x39 AND Absolute_Y, R141. -/
def execAndAby (w : Addr) (s : State) : Result := opAnd (.aby w) s

/-- 0x3D AND Absolute_X, R141. -/
def execAndAbx (w : Addr) (s : State) : Result := opAnd (.abx w) s

/-- ORA (R142). -/
def opOra (o : Operand) (s : State) : Result := withOperand o (fun m s => accumulate (s.a ||| m) s) s

/-- 0x01 ORA Indirect_X, R142. -/
def execOraIzx (b : Byte) (s : State) : Result := opOra (.izx b) s

/-- 0x05 ORA ZeroPage, R142. -/
def execOraZp (b : Byte) (s : State) : Result := opOra (.zp b) s

/-- 0x09 ORA Immediate, R142. -/
def execOraImm (v : Byte) (s : State) : Result := opOra (.imm v) s

/-- 0x0D ORA Absolute, R142. -/
def execOraAbs (w : Addr) (s : State) : Result := opOra (.abs w) s

/-- 0x11 ORA Indirect_Y, R142. -/
def execOraIzy (b : Byte) (s : State) : Result := opOra (.izy b) s

/-- 0x15 ORA ZeroPage_X, R142. -/
def execOraZpx (b : Byte) (s : State) : Result := opOra (.zpx b) s

/-- 0x19 ORA Absolute_Y, R142. -/
def execOraAby (w : Addr) (s : State) : Result := opOra (.aby w) s

/-- 0x1D ORA Absolute_X, R142. -/
def execOraAbx (w : Addr) (s : State) : Result := opOra (.abx w) s

/-- EOR (R143). -/
def opEor (o : Operand) (s : State) : Result := withOperand o (fun m s => accumulate (s.a ^^^ m) s) s

/-- 0x41 EOR Indirect_X, R143. -/
def execEorIzx (b : Byte) (s : State) : Result := opEor (.izx b) s

/-- 0x45 EOR ZeroPage, R143. -/
def execEorZp (b : Byte) (s : State) : Result := opEor (.zp b) s

/-- 0x49 EOR Immediate, R143. -/
def execEorImm (v : Byte) (s : State) : Result := opEor (.imm v) s

/-- 0x4D EOR Absolute, R143. -/
def execEorAbs (w : Addr) (s : State) : Result := opEor (.abs w) s

/-- 0x51 EOR Indirect_Y, R143. -/
def execEorIzy (b : Byte) (s : State) : Result := opEor (.izy b) s

/-- 0x55 EOR ZeroPage_X, R143. -/
def execEorZpx (b : Byte) (s : State) : Result := opEor (.zpx b) s

/-- 0x59 EOR Absolute_Y, R143. -/
def execEorAby (w : Addr) (s : State) : Result := opEor (.aby w) s

/-- 0x5D EOR Absolute_X, R143. -/
def execEorAbx (w : Addr) (s : State) : Result := opEor (.abx w) s

/-- ADC (R145). -/
def opAdc (o : Operand) (s : State) : Result := withOperand o adcCore s

/-- 0x61 ADC Indirect_X, R145. -/
def execAdcIzx (b : Byte) (s : State) : Result := opAdc (.izx b) s

/-- 0x65 ADC ZeroPage, R145. -/
def execAdcZp (b : Byte) (s : State) : Result := opAdc (.zp b) s

/-- 0x69 ADC Immediate, R145. -/
def execAdcImm (v : Byte) (s : State) : Result := opAdc (.imm v) s

/-- 0x6D ADC Absolute, R145. -/
def execAdcAbs (w : Addr) (s : State) : Result := opAdc (.abs w) s

/-- 0x71 ADC Indirect_Y, R145. -/
def execAdcIzy (b : Byte) (s : State) : Result := opAdc (.izy b) s

/-- 0x75 ADC ZeroPage_X, R145. -/
def execAdcZpx (b : Byte) (s : State) : Result := opAdc (.zpx b) s

/-- 0x79 ADC Absolute_Y, R145. -/
def execAdcAby (w : Addr) (s : State) : Result := opAdc (.aby w) s

/-- 0x7D ADC Absolute_X, R145. -/
def execAdcAbx (w : Addr) (s : State) : Result := opAdc (.abx w) s

/-- SBC (R146; R245 for the byte 0xEB). -/
def opSbc (o : Operand) (s : State) : Result := withOperand o sbcCore s

/-- 0xE1 SBC Indirect_X, R146. -/
def execSbcIzx (b : Byte) (s : State) : Result := opSbc (.izx b) s

/-- 0xE5 SBC ZeroPage, R146. -/
def execSbcZp (b : Byte) (s : State) : Result := opSbc (.zp b) s

/-- 0xE9 SBC Immediate, R146. -/
def execSbcImm (v : Byte) (s : State) : Result := opSbc (.imm v) s

/-- 0xED SBC Absolute, R146. -/
def execSbcAbs (w : Addr) (s : State) : Result := opSbc (.abs w) s

/-- 0xF1 SBC Indirect_Y, R146. -/
def execSbcIzy (b : Byte) (s : State) : Result := opSbc (.izy b) s

/-- 0xF5 SBC ZeroPage_X, R146. -/
def execSbcZpx (b : Byte) (s : State) : Result := opSbc (.zpx b) s

/-- 0xF9 SBC Absolute_Y, R146. -/
def execSbcAby (w : Addr) (s : State) : Result := opSbc (.aby w) s

/-- 0xFD SBC Absolute_X, R146. -/
def execSbcAbx (w : Addr) (s : State) : Result := opSbc (.abx w) s

/-- CMP (R148). -/
def opCmp (o : Operand) (s : State) : Result := withOperand o (fun m s => compareWith s.a m s) s

/-- 0xC1 CMP Indirect_X, R148. -/
def execCmpIzx (b : Byte) (s : State) : Result := opCmp (.izx b) s

/-- 0xC5 CMP ZeroPage, R148. -/
def execCmpZp (b : Byte) (s : State) : Result := opCmp (.zp b) s

/-- 0xC9 CMP Immediate, R148. -/
def execCmpImm (v : Byte) (s : State) : Result := opCmp (.imm v) s

/-- 0xCD CMP Absolute, R148. -/
def execCmpAbs (w : Addr) (s : State) : Result := opCmp (.abs w) s

/-- 0xD1 CMP Indirect_Y, R148. -/
def execCmpIzy (b : Byte) (s : State) : Result := opCmp (.izy b) s

/-- 0xD5 CMP ZeroPage_X, R148. -/
def execCmpZpx (b : Byte) (s : State) : Result := opCmp (.zpx b) s

/-- 0xD9 CMP Absolute_Y, R148. -/
def execCmpAby (w : Addr) (s : State) : Result := opCmp (.aby w) s

/-- 0xDD CMP Absolute_X, R148. -/
def execCmpAbx (w : Addr) (s : State) : Result := opCmp (.abx w) s

/-- CPX (R149). -/
def opCpx (o : Operand) (s : State) : Result := withOperand o (fun m s => compareWith s.x m s) s

/-- 0xE0 CPX Immediate, R149. -/
def execCpxImm (v : Byte) (s : State) : Result := opCpx (.imm v) s

/-- 0xE4 CPX ZeroPage, R149. -/
def execCpxZp (b : Byte) (s : State) : Result := opCpx (.zp b) s

/-- 0xEC CPX Absolute, R149. -/
def execCpxAbs (w : Addr) (s : State) : Result := opCpx (.abs w) s

/-- CPY (R150). -/
def opCpy (o : Operand) (s : State) : Result := withOperand o (fun m s => compareWith s.y m s) s

/-- 0xC0 CPY Immediate, R150. -/
def execCpyImm (v : Byte) (s : State) : Result := opCpy (.imm v) s

/-- 0xC4 CPY ZeroPage, R150. -/
def execCpyZp (b : Byte) (s : State) : Result := opCpy (.zp b) s

/-- 0xCC CPY Absolute, R150. -/
def execCpyAbs (w : Addr) (s : State) : Result := opCpy (.abs w) s

/-- BIT (R151). -/
def opBit (o : Operand) (s : State) : Result := withOperand o bitTest s

/-- 0x24 BIT ZeroPage, R151. -/
def execBitZp (b : Byte) (s : State) : Result := opBit (.zp b) s

/-- 0x2C BIT Absolute, R151. -/
def execBitAbs (w : Addr) (s : State) : Result := opBit (.abs w) s

/-- INC (R152). -/
def opInc (o : Operand) (s : State) : Result := readModifyWrite o (fun v s => (v + 1, s)) setZN s

/-- 0xE6 INC ZeroPage, R152. -/
def execIncZp (b : Byte) (s : State) : Result := opInc (.zp b) s

/-- 0xEE INC Absolute, R152. -/
def execIncAbs (w : Addr) (s : State) : Result := opInc (.abs w) s

/-- 0xF6 INC ZeroPage_X, R152. -/
def execIncZpx (b : Byte) (s : State) : Result := opInc (.zpx b) s

/-- 0xFE INC Absolute_X, R152. -/
def execIncAbx (w : Addr) (s : State) : Result := opInc (.abx w) s

/-- DEC (R153). -/
def opDec (o : Operand) (s : State) : Result := readModifyWrite o (fun v s => (v - 1, s)) setZN s

/-- 0xC6 DEC ZeroPage, R153. -/
def execDecZp (b : Byte) (s : State) : Result := opDec (.zp b) s

/-- 0xCE DEC Absolute, R153. -/
def execDecAbs (w : Addr) (s : State) : Result := opDec (.abs w) s

/-- 0xD6 DEC ZeroPage_X, R153. -/
def execDecZpx (b : Byte) (s : State) : Result := opDec (.zpx b) s

/-- 0xDE DEC Absolute_X, R153. -/
def execDecAbx (w : Addr) (s : State) : Result := opDec (.abx w) s

/-- 0xE8 INX Implied, R154. -/
def execInx (s : State) : Result := registerOnly (fun s => loadReg .x (s.x + 1) s) s

/-- 0xC8 INY Implied, R155. -/
def execIny (s : State) : Result := registerOnly (fun s => loadReg .y (s.y + 1) s) s

/-- 0xCA DEX Implied, R156. -/
def execDex (s : State) : Result := registerOnly (fun s => loadReg .x (s.x - 1) s) s

/-- 0x88 DEY Implied, R157. -/
def execDey (s : State) : Result := registerOnly (fun s => loadReg .y (s.y - 1) s) s

end Sys2Proof.Machine
end

