-- ==== Sys2Proof/Machine/Control.lean ====
section
/-!
DEFINITION. The meanings of spec file 44: branches, jumps, call and return (rules R200 to R212).
-/

namespace Sys2Proof.Machine

/-! The condition of each branch (R201 to R208). -/

def condBcc : Cond := ⟨.c, false⟩
def condBcs : Cond := ⟨.c, true⟩
def condBeq : Cond := ⟨.z, true⟩
def condBne : Cond := ⟨.z, false⟩
def condBmi : Cond := ⟨.n, true⟩
def condBpl : Cond := ⟨.n, false⟩
def condBvc : Cond := ⟨.v, false⟩
def condBvs : Cond := ⟨.v, true⟩

/-- `branch(cond)` (R200). The fetch reads the offset byte only when the branch is taken (Machine/Fetch.lean). -/
def branch (c : Cond) (off : Byte) (s : State) : Result :=
  finish s 2 (.ok (s, if c.holds s.p then some (branchTarget s.pc off) else none))

/-- JSR (R211): both pushes of `opaddr + 2`, then the target is read from the operand bytes. -/
def call (s : State) : Except Fault (State × Option Addr) := do
  let s1 ← push16 (s.pc + 2) s
  let target ← memReadWide s1 (s.pc + 1)
  return (s1, some target)

/-- 0x90 BCC Relative, R201. -/
def execBcc (off : Byte) (s : State) : Result := branch condBcc off s

/-- 0xB0 BCS Relative, R202. -/
def execBcs (off : Byte) (s : State) : Result := branch condBcs off s

/-- 0xF0 BEQ Relative, R203. -/
def execBeq (off : Byte) (s : State) : Result := branch condBeq off s

/-- 0xD0 BNE Relative, R204. -/
def execBne (off : Byte) (s : State) : Result := branch condBne off s

/-- 0x30 BMI Relative, R205. -/
def execBmi (off : Byte) (s : State) : Result := branch condBmi off s

/-- 0x10 BPL Relative, R206. -/
def execBpl (off : Byte) (s : State) : Result := branch condBpl off s

/-- 0x50 BVC Relative, R207. -/
def execBvc (off : Byte) (s : State) : Result := branch condBvc off s

/-- 0x70 BVS Relative, R208. -/
def execBvs (off : Byte) (s : State) : Result := branch condBvs off s

/-- 0x4C JMP Absolute, R209. -/
def execJmpAbs (w : Addr) (s : State) : Result := finish s 3 (.ok (s, some w))

/-- 0x6C JMP Indirect, R210. -/
def execJmpInd (w : Addr) (s : State) : Result := finish s 3 ((indirectTarget w s).map fun t => (s, some t))

/-- 0x20 JSR, R211. The word in the instruction is what its operand bytes held at the fetch; the target is what they hold
after both pushes, so the meaning takes it from memory (log entry 9). -/
def execJsr (s : State) : Result := finish s 3 (call s)

/-- 0x60 RTS Implied, R212. -/
def execRts (s : State) : Result := finish s 1 ((pull16 s).map fun (w, t) => (t, some (w + 1)))

end Sys2Proof.Machine
end

