-- ==== Sys2Proof/Machine/LoadStore.lean ====
section
/-!
DEFINITION. The meanings of spec file 40: loads, stores and register transfers (rules R120 to R132).
-/

namespace Sys2Proof.Machine

/-- LDA (R121). -/
def opLda (o : Operand) (s : State) : Result := withOperand o (loadReg .a) s

/-- 0xA1 LDA Indirect_X, R121. -/
def execLdaIzx (b : Byte) (s : State) : Result := opLda (.izx b) s

/-- 0xA5 LDA ZeroPage, R121. -/
def execLdaZp (b : Byte) (s : State) : Result := opLda (.zp b) s

/-- 0xA9 LDA Immediate, R121. -/
def execLdaImm (v : Byte) (s : State) : Result := opLda (.imm v) s

/-- 0xAD LDA Absolute, R121. -/
def execLdaAbs (w : Addr) (s : State) : Result := opLda (.abs w) s

/-- 0xB1 LDA Indirect_Y, R121. -/
def execLdaIzy (b : Byte) (s : State) : Result := opLda (.izy b) s

/-- 0xB5 LDA ZeroPage_X, R121. -/
def execLdaZpx (b : Byte) (s : State) : Result := opLda (.zpx b) s

/-- 0xB9 LDA Absolute_Y, R121. -/
def execLdaAby (w : Addr) (s : State) : Result := opLda (.aby w) s

/-- 0xBD LDA Absolute_X, R121. -/
def execLdaAbx (w : Addr) (s : State) : Result := opLda (.abx w) s

/-- LDX (R122). -/
def opLdx (o : Operand) (s : State) : Result := withOperand o (loadReg .x) s

/-- 0xA2 LDX Immediate, R122. -/
def execLdxImm (v : Byte) (s : State) : Result := opLdx (.imm v) s

/-- 0xA6 LDX ZeroPage, R122. -/
def execLdxZp (b : Byte) (s : State) : Result := opLdx (.zp b) s

/-- 0xAE LDX Absolute, R122. -/
def execLdxAbs (w : Addr) (s : State) : Result := opLdx (.abs w) s

/-- 0xB6 LDX ZeroPage_Y, R122. -/
def execLdxZpy (b : Byte) (s : State) : Result := opLdx (.zpy b) s

/-- 0xBE LDX Absolute_Y, R122. -/
def execLdxAby (w : Addr) (s : State) : Result := opLdx (.aby w) s

/-- LDY (R123). -/
def opLdy (o : Operand) (s : State) : Result := withOperand o (loadReg .y) s

/-- 0xA0 LDY Immediate, R123. -/
def execLdyImm (v : Byte) (s : State) : Result := opLdy (.imm v) s

/-- 0xA4 LDY ZeroPage, R123. -/
def execLdyZp (b : Byte) (s : State) : Result := opLdy (.zp b) s

/-- 0xAC LDY Absolute, R123. -/
def execLdyAbs (w : Addr) (s : State) : Result := opLdy (.abs w) s

/-- 0xB4 LDY ZeroPage_X, R123. -/
def execLdyZpx (b : Byte) (s : State) : Result := opLdy (.zpx b) s

/-- 0xBC LDY Absolute_X, R123. -/
def execLdyAbx (w : Addr) (s : State) : Result := opLdy (.abx w) s

/-- STA (R124); no flag is written. -/
def opSta (o : Operand) (s : State) : Result := storeAt o s.a s

/-- 0x81 STA Indirect_X, R124. -/
def execStaIzx (b : Byte) (s : State) : Result := opSta (.izx b) s

/-- 0x85 STA ZeroPage, R124. -/
def execStaZp (b : Byte) (s : State) : Result := opSta (.zp b) s

/-- 0x8D STA Absolute, R124. -/
def execStaAbs (w : Addr) (s : State) : Result := opSta (.abs w) s

/-- 0x91 STA Indirect_Y, R124. -/
def execStaIzy (b : Byte) (s : State) : Result := opSta (.izy b) s

/-- 0x95 STA ZeroPage_X, R124. -/
def execStaZpx (b : Byte) (s : State) : Result := opSta (.zpx b) s

/-- 0x99 STA Absolute_Y, R124. -/
def execStaAby (w : Addr) (s : State) : Result := opSta (.aby w) s

/-- 0x9D STA Absolute_X, R124. -/
def execStaAbx (w : Addr) (s : State) : Result := opSta (.abx w) s

/-- STX (R125); no flag is written. -/
def opStx (o : Operand) (s : State) : Result := storeAt o s.x s

/-- 0x86 STX ZeroPage, R125. -/
def execStxZp (b : Byte) (s : State) : Result := opStx (.zp b) s

/-- 0x8E STX Absolute, R125. -/
def execStxAbs (w : Addr) (s : State) : Result := opStx (.abs w) s

/-- 0x96 STX ZeroPage_Y, R125. -/
def execStxZpy (b : Byte) (s : State) : Result := opStx (.zpy b) s

/-- STY (R126); no flag is written. -/
def opSty (o : Operand) (s : State) : Result := storeAt o s.y s

/-- 0x84 STY ZeroPage, R126. -/
def execStyZp (b : Byte) (s : State) : Result := opSty (.zp b) s

/-- 0x8C STY Absolute, R126. -/
def execStyAbs (w : Addr) (s : State) : Result := opSty (.abs w) s

/-- 0x94 STY ZeroPage_X, R126. -/
def execStyZpx (b : Byte) (s : State) : Result := opSty (.zpx b) s

/-- 0xAA TAX Implied, R127. -/
def execTax (s : State) : Result := registerOnly (fun s => loadReg .x s.a s) s

/-- 0xA8 TAY Implied, R128. -/
def execTay (s : State) : Result := registerOnly (fun s => loadReg .y s.a s) s

/-- 0x8A TXA Implied, R129. -/
def execTxa (s : State) : Result := registerOnly (fun s => loadReg .a s.x s) s

/-- 0x98 TYA Implied, R130. -/
def execTya (s : State) : Result := registerOnly (fun s => loadReg .a s.y s) s

/-- 0xBA TSX Implied, R131. -/
def execTsx (s : State) : Result := registerOnly (fun s => loadReg .x s.sp s) s

/-- 0x9A TXS Implied, R132; no flag is written. -/
def execTxs (s : State) : Result := registerOnly (fun s => s.setReg .sp s.x) s

end Sys2Proof.Machine
end

