-- ==== Sys2Proof/Machine/Shift.lean ====
section
/-!
DEFINITION. The meanings of spec file 42: shifts and rotates (rules R170 to R174).
-/

namespace Sys2Proof.Machine

/-- The accumulator form of a shift or rotate (R170): no memory access after the fetch. -/
def shiftAccumulator (f : Byte → Bool → Shifted) (s : State) : Result :=
  registerOnly (fun s => let (r, t) := shiftStep f s.a s; accumulate r t) s

/-- ASL on memory (R171, R170). -/
def opAsl (o : Operand) (s : State) : Result := readModifyWrite o (shiftStep shiftLeft) setZN s

/-- 0x06 ASL ZeroPage, R171. -/
def execAslZp (b : Byte) (s : State) : Result := opAsl (.zp b) s

/-- 0x0A ASL Accumulator, R171. -/
def execAslAcc (s : State) : Result := shiftAccumulator shiftLeft s

/-- 0x0E ASL Absolute, R171. -/
def execAslAbs (w : Addr) (s : State) : Result := opAsl (.abs w) s

/-- 0x16 ASL ZeroPage_X, R171. -/
def execAslZpx (b : Byte) (s : State) : Result := opAsl (.zpx b) s

/-- 0x1E ASL Absolute_X, R171. -/
def execAslAbx (w : Addr) (s : State) : Result := opAsl (.abx w) s

/-- LSR on memory (R172, R170). -/
def opLsr (o : Operand) (s : State) : Result := readModifyWrite o (shiftStep shiftRight) setZN s

/-- 0x46 LSR ZeroPage, R172. -/
def execLsrZp (b : Byte) (s : State) : Result := opLsr (.zp b) s

/-- 0x4A LSR Accumulator, R172. -/
def execLsrAcc (s : State) : Result := shiftAccumulator shiftRight s

/-- 0x4E LSR Absolute, R172. -/
def execLsrAbs (w : Addr) (s : State) : Result := opLsr (.abs w) s

/-- 0x56 LSR ZeroPage_X, R172. -/
def execLsrZpx (b : Byte) (s : State) : Result := opLsr (.zpx b) s

/-- 0x5E LSR Absolute_X, R172. -/
def execLsrAbx (w : Addr) (s : State) : Result := opLsr (.abx w) s

/-- ROL on memory (R173, R170). -/
def opRol (o : Operand) (s : State) : Result := readModifyWrite o (shiftStep rotateLeft) setZN s

/-- 0x26 ROL ZeroPage, R173. -/
def execRolZp (b : Byte) (s : State) : Result := opRol (.zp b) s

/-- 0x2A ROL Accumulator, R173. -/
def execRolAcc (s : State) : Result := shiftAccumulator rotateLeft s

/-- 0x2E ROL Absolute, R173. -/
def execRolAbs (w : Addr) (s : State) : Result := opRol (.abs w) s

/-- 0x36 ROL ZeroPage_X, R173. -/
def execRolZpx (b : Byte) (s : State) : Result := opRol (.zpx b) s

/-- 0x3E ROL Absolute_X, R173. -/
def execRolAbx (w : Addr) (s : State) : Result := opRol (.abx w) s

/-- ROR on memory (R174, R170). -/
def opRor (o : Operand) (s : State) : Result := readModifyWrite o (shiftStep rotateRight) setZN s

/-- 0x66 ROR ZeroPage, R174. -/
def execRorZp (b : Byte) (s : State) : Result := opRor (.zp b) s

/-- 0x6A ROR Accumulator, R174. -/
def execRorAcc (s : State) : Result := shiftAccumulator rotateRight s

/-- 0x6E ROR Absolute, R174. -/
def execRorAbs (w : Addr) (s : State) : Result := opRor (.abs w) s

/-- 0x76 ROR ZeroPage_X, R174. -/
def execRorZpx (b : Byte) (s : State) : Result := opRor (.zpx b) s

/-- 0x7E ROR Absolute_X, R174. -/
def execRorAbx (w : Addr) (s : State) : Result := opRor (.abx w) s

end Sys2Proof.Machine
end

