-- ==== Sys2Proof/Machine/StackFlags.lean ====
section
/-!
DEFINITION. The meanings of spec file 43: stack, flag and no-operation instructions (rules R180 to R191).
-/

namespace Sys2Proof.Machine

/-- An instruction that writes the status register only. -/
def flagOp (f : Byte → Byte) (s : State) : Result := registerOnly (fun s => s.setStatus (f s.p)) s

/-- 0x48 PHA Implied, R180. -/
def execPha (s : State) : Result := advance s 1 (push8 s.a s)

/-- 0x68 PLA Implied, R181. -/
def execPla (s : State) : Result := advance s 1 ((pull8 s).map fun (v, t) => loadReg .a v t)

/-- 0x08 PHP Implied, R182. -/
def execPhp (s : State) : Result := advance s 1 (push8 (pushedStatus s.p) s)

/-- 0x28 PLP Implied, R183. -/
def execPlp (s : State) : Result := advance s 1 ((pull8 s).map fun (v, t) => t.setStatus (restoredStatus v))

/-- 0x18 CLC Implied, R184. -/
def execClc (s : State) : Result := flagOp (unsetFlag .c) s

/-- 0x38 SEC Implied, R185. -/
def execSec (s : State) : Result := flagOp (setFlag .c) s

/-- 0x58 CLI Implied, R186. -/
def execCli (s : State) : Result := flagOp (unsetFlag .i) s

/-- 0x78 SEI Implied, R187. -/
def execSei (s : State) : Result := flagOp (setFlag .i) s

/-- 0xD8 CLD Implied, R188. -/
def execCld (s : State) : Result := flagOp (unsetFlag .d) s

/-- 0xF8 SED Implied, R189. -/
def execSed (s : State) : Result := flagOp (setFlag .d) s

/-- 0xB8 CLV Implied, R190. -/
def execClv (s : State) : Result := flagOp (unsetFlag .v) s

/-- 0xEA NOP Implied, R191. -/
def execNop (s : State) : Result := registerOnly (fun s => s) s

end Sys2Proof.Machine
end

