-- ==== Sys2Proof/Machine/System.lean ====
section
/-!
DEFINITION. The meanings of spec file 45: BRK and RTI (rules R220, R221; R274, R275).
-/

namespace Sys2Proof.Machine

/-- 0x00 BRK Implied, R220. -/
def execBrk (s : State) : Result := advance s 1 (trapEntry s)

/-- 0x40 RTI Implied, R221. -/
def execRti (s : State) : Result := finish s 1 (trapReturn s)

end Sys2Proof.Machine
end

