-- ==== Sys2Proof/Machine/Unofficial.lean ====
section
/-!
DEFINITION. The meanings of spec file 46: the unofficial opcodes (rules R230 to R245) and the twenty bytes with no table entry
(R246).
-/

namespace Sys2Proof.Machine

/-- 0x1A NOP Implied, R231. -/
def execNop1A (s : State) : Result := registerOnly (fun s => s) s

/-- 0x3A NOP Implied, R231. -/
def execNop3A (s : State) : Result := registerOnly (fun s => s) s

/-- 0x5A NOP Implied, R231. -/
def execNop5A (s : State) : Result := registerOnly (fun s => s) s

/-- 0x7A NOP Implied, R231. -/
def execNop7A (s : State) : Result := registerOnly (fun s => s) s

/-- 0xDA NOP Implied, R231. -/
def execNopDA (s : State) : Result := registerOnly (fun s => s) s

/-- 0xFA NOP Implied, R231. -/
def execNopFA (s : State) : Result := registerOnly (fun s => s) s

/-- An unofficial no-operation with an operand (R232): the byte is read and discarded. -/
def opNop (o : Operand) (s : State) : Result := withOperand o (fun _ s => s) s

/-- 0x04 NOP ZeroPage, R232. -/
def execNopZp04 (b : Byte) (s : State) : Result := opNop (.zp b) s

/-- 0x0C NOP Absolute, R232. -/
def execNopAbs (w : Addr) (s : State) : Result := opNop (.abs w) s

/-- 0x14 NOP ZeroPage_X, R232. -/
def execNopZpx14 (b : Byte) (s : State) : Result := opNop (.zpx b) s

/-- 0x1C NOP Absolute_X, R232. -/
def execNopAbx1C (w : Addr) (s : State) : Result := opNop (.abx w) s

/-- 0x34 NOP ZeroPage_X, R232. -/
def execNopZpx34 (b : Byte) (s : State) : Result := opNop (.zpx b) s

/-- 0x3C NOP Absolute_X, R232. -/
def execNopAbx3C (w : Addr) (s : State) : Result := opNop (.abx w) s

/-- 0x44 NOP ZeroPage, R232. -/
def execNopZp44 (b : Byte) (s : State) : Result := opNop (.zp b) s

/-- 0x54 NOP ZeroPage_X, R232. -/
def execNopZpx54 (b : Byte) (s : State) : Result := opNop (.zpx b) s

/-- 0x5C NOP Absolute_X, R232. -/
def execNopAbx5C (w : Addr) (s : State) : Result := opNop (.abx w) s

/-- 0x64 NOP ZeroPage, R232. -/
def execNopZp64 (b : Byte) (s : State) : Result := opNop (.zp b) s

/-- 0x74 NOP ZeroPage_X, R232. -/
def execNopZpx74 (b : Byte) (s : State) : Result := opNop (.zpx b) s

/-- 0x7C NOP Absolute_X, R232. -/
def execNopAbx7C (w : Addr) (s : State) : Result := opNop (.abx w) s

/-- 0x80 NOP Immediate, R232. -/
def execNopImm80 (v : Byte) (s : State) : Result := opNop (.imm v) s

/-- 0x82 NOP Immediate, R232. -/
def execNopImm82 (v : Byte) (s : State) : Result := opNop (.imm v) s

/-- 0x89 NOP Immediate, R232. -/
def execNopImm89 (v : Byte) (s : State) : Result := opNop (.imm v) s

/-- 0xC2 NOP Immediate, R232. -/
def execNopImmC2 (v : Byte) (s : State) : Result := opNop (.imm v) s

/-- 0xD4 NOP ZeroPage_X, R232. -/
def execNopZpxD4 (b : Byte) (s : State) : Result := opNop (.zpx b) s

/-- 0xDC NOP Absolute_X, R232. -/
def execNopAbxDC (w : Addr) (s : State) : Result := opNop (.abx w) s

/-- 0xE2 NOP Immediate, R232. -/
def execNopImmE2 (v : Byte) (s : State) : Result := opNop (.imm v) s

/-- 0xF4 NOP ZeroPage_X, R232. -/
def execNopZpxF4 (b : Byte) (s : State) : Result := opNop (.zpx b) s

/-- 0xFC NOP Absolute_X, R232. -/
def execNopAbxFC (w : Addr) (s : State) : Result := opNop (.abx w) s

/-- SLO (R233). -/
def opSlo (o : Operand) (s : State) : Result := readModifyWrite o (shiftStep shiftLeft) (fun r s => accumulate (s.a ||| r) s) s

/-- 0x03 SLO Indirect_X, R233. -/
def execSloIzx (b : Byte) (s : State) : Result := opSlo (.izx b) s

/-- 0x07 SLO ZeroPage, R233. -/
def execSloZp (b : Byte) (s : State) : Result := opSlo (.zp b) s

/-- 0x0F SLO Absolute, R233. -/
def execSloAbs (w : Addr) (s : State) : Result := opSlo (.abs w) s

/-- 0x13 SLO Indirect_Y, R233. -/
def execSloIzy (b : Byte) (s : State) : Result := opSlo (.izy b) s

/-- 0x17 SLO ZeroPage_X, R233. -/
def execSloZpx (b : Byte) (s : State) : Result := opSlo (.zpx b) s

/-- 0x1B SLO Absolute_Y, R233. -/
def execSloAby (w : Addr) (s : State) : Result := opSlo (.aby w) s

/-- 0x1F SLO Absolute_X, R233. -/
def execSloAbx (w : Addr) (s : State) : Result := opSlo (.abx w) s

/-- RLA (R234). -/
def opRla (o : Operand) (s : State) : Result := readModifyWrite o (shiftStep rotateLeft) (fun r s => accumulate (s.a &&& r) s) s

/-- 0x23 RLA Indirect_X, R234. -/
def execRlaIzx (b : Byte) (s : State) : Result := opRla (.izx b) s

/-- 0x27 RLA ZeroPage, R234. -/
def execRlaZp (b : Byte) (s : State) : Result := opRla (.zp b) s

/-- 0x2F RLA Absolute, R234. -/
def execRlaAbs (w : Addr) (s : State) : Result := opRla (.abs w) s

/-- 0x33 RLA Indirect_Y, R234. -/
def execRlaIzy (b : Byte) (s : State) : Result := opRla (.izy b) s

/-- 0x37 RLA ZeroPage_X, R234. -/
def execRlaZpx (b : Byte) (s : State) : Result := opRla (.zpx b) s

/-- 0x3B RLA Absolute_Y, R234. -/
def execRlaAby (w : Addr) (s : State) : Result := opRla (.aby w) s

/-- 0x3F RLA Absolute_X, R234. -/
def execRlaAbx (w : Addr) (s : State) : Result := opRla (.abx w) s

/-- SRE (R235). -/
def opSre (o : Operand) (s : State) : Result := readModifyWrite o (shiftStep shiftRight) (fun r s => accumulate (s.a ^^^ r) s) s

/-- 0x43 SRE Indirect_X, R235. -/
def execSreIzx (b : Byte) (s : State) : Result := opSre (.izx b) s

/-- 0x47 SRE ZeroPage, R235. -/
def execSreZp (b : Byte) (s : State) : Result := opSre (.zp b) s

/-- 0x4F SRE Absolute, R235. -/
def execSreAbs (w : Addr) (s : State) : Result := opSre (.abs w) s

/-- 0x53 SRE Indirect_Y, R235. -/
def execSreIzy (b : Byte) (s : State) : Result := opSre (.izy b) s

/-- 0x57 SRE ZeroPage_X, R235. -/
def execSreZpx (b : Byte) (s : State) : Result := opSre (.zpx b) s

/-- 0x5B SRE Absolute_Y, R235. -/
def execSreAby (w : Addr) (s : State) : Result := opSre (.aby w) s

/-- 0x5F SRE Absolute_X, R235. -/
def execSreAbx (w : Addr) (s : State) : Result := opSre (.abx w) s

/-- RRA (R236): the bit rotated out is the carry-in of the adder. -/
def opRra (o : Operand) (s : State) : Result := readModifyWrite o (shiftStep rotateRight) adcCore s

/-- 0x63 RRA Indirect_X, R236. -/
def execRraIzx (b : Byte) (s : State) : Result := opRra (.izx b) s

/-- 0x67 RRA ZeroPage, R236. -/
def execRraZp (b : Byte) (s : State) : Result := opRra (.zp b) s

/-- 0x6F RRA Absolute, R236. -/
def execRraAbs (w : Addr) (s : State) : Result := opRra (.abs w) s

/-- 0x73 RRA Indirect_Y, R236. -/
def execRraIzy (b : Byte) (s : State) : Result := opRra (.izy b) s

/-- 0x77 RRA ZeroPage_X, R236. -/
def execRraZpx (b : Byte) (s : State) : Result := opRra (.zpx b) s

/-- 0x7B RRA Absolute_Y, R236. -/
def execRraAby (w : Addr) (s : State) : Result := opRra (.aby w) s

/-- 0x7F RRA Absolute_X, R236. -/
def execRraAbx (w : Addr) (s : State) : Result := opRra (.abx w) s

/-- SAX (R237); no flag is written. -/
def opSax (o : Operand) (s : State) : Result := storeAt o (s.a &&& s.x) s

/-- 0x83 SAX Indirect_X, R237. -/
def execSaxIzx (b : Byte) (s : State) : Result := opSax (.izx b) s

/-- 0x87 SAX ZeroPage, R237. -/
def execSaxZp (b : Byte) (s : State) : Result := opSax (.zp b) s

/-- 0x8F SAX Absolute, R237. -/
def execSaxAbs (w : Addr) (s : State) : Result := opSax (.abs w) s

/-- 0x97 SAX ZeroPage_Y, R237. -/
def execSaxZpy (b : Byte) (s : State) : Result := opSax (.zpy b) s

/-- LAX (R238). -/
def opLax (o : Operand) (s : State) : Result := withOperand o (fun v s => loadReg .x v { s with a := v }) s

/-- 0xA3 LAX Indirect_X, R238. -/
def execLaxIzx (b : Byte) (s : State) : Result := opLax (.izx b) s

/-- 0xA7 LAX ZeroPage, R238. -/
def execLaxZp (b : Byte) (s : State) : Result := opLax (.zp b) s

/-- 0xAF LAX Absolute, R238. -/
def execLaxAbs (w : Addr) (s : State) : Result := opLax (.abs w) s

/-- 0xB3 LAX Indirect_Y, R238. -/
def execLaxIzy (b : Byte) (s : State) : Result := opLax (.izy b) s

/-- 0xB7 LAX ZeroPage_Y, R238. -/
def execLaxZpy (b : Byte) (s : State) : Result := opLax (.zpy b) s

/-- 0xBF LAX Absolute_Y, R238. -/
def execLaxAby (w : Addr) (s : State) : Result := opLax (.aby w) s

/-- DCP (R239). -/
def opDcp (o : Operand) (s : State) : Result := readModifyWrite o (fun v s => (v - 1, s)) (fun r s => compareWith s.a r s) s

/-- 0xC3 DCP Indirect_X, R239. -/
def execDcpIzx (b : Byte) (s : State) : Result := opDcp (.izx b) s

/-- 0xC7 DCP ZeroPage, R239. -/
def execDcpZp (b : Byte) (s : State) : Result := opDcp (.zp b) s

/-- 0xCF DCP Absolute, R239. -/
def execDcpAbs (w : Addr) (s : State) : Result := opDcp (.abs w) s

/-- 0xD3 DCP Indirect_Y, R239. -/
def execDcpIzy (b : Byte) (s : State) : Result := opDcp (.izy b) s

/-- 0xD7 DCP ZeroPage_X, R239. -/
def execDcpZpx (b : Byte) (s : State) : Result := opDcp (.zpx b) s

/-- 0xDB DCP Absolute_Y, R239. -/
def execDcpAby (w : Addr) (s : State) : Result := opDcp (.aby w) s

/-- 0xDF DCP Absolute_X, R239. -/
def execDcpAbx (w : Addr) (s : State) : Result := opDcp (.abx w) s

/-- ISB (R240): SBC of the incremented byte. -/
def opIsb (o : Operand) (s : State) : Result := readModifyWrite o (fun v s => (v + 1, s)) (fun r s => adcCore (r ^^^ 0xFF) s) s

/-- 0xE3 ISB Indirect_X, R240. -/
def execIsbIzx (b : Byte) (s : State) : Result := opIsb (.izx b) s

/-- 0xE7 ISB ZeroPage, R240. -/
def execIsbZp (b : Byte) (s : State) : Result := opIsb (.zp b) s

/-- 0xEF ISB Absolute, R240. -/
def execIsbAbs (w : Addr) (s : State) : Result := opIsb (.abs w) s

/-- 0xF3 ISB Indirect_Y, R240. -/
def execIsbIzy (b : Byte) (s : State) : Result := opIsb (.izy b) s

/-- 0xF7 ISB ZeroPage_X, R240. -/
def execIsbZpx (b : Byte) (s : State) : Result := opIsb (.zpx b) s

/-- 0xFB ISB Absolute_Y, R240. -/
def execIsbAby (w : Addr) (s : State) : Result := opIsb (.aby w) s

/-- 0xFF ISB Absolute_X, R240. -/
def execIsbAbx (w : Addr) (s : State) : Result := opIsb (.abx w) s

/-- ANC (R241). -/
def opAnc (o : Operand) (s : State) : Result := withOperand o ancCore s

/-- 0x0B ANC Immediate, R241. -/
def execAncImm0B (v : Byte) (s : State) : Result := opAnc (.imm v) s

/-- 0x2B ANC Immediate, R241. -/
def execAncImm2B (v : Byte) (s : State) : Result := opAnc (.imm v) s

/-- ALR (R242). -/
def opAlr (o : Operand) (s : State) : Result := withOperand o alrCore s

/-- 0x4B ALR Immediate, R242. -/
def execAlrImm (v : Byte) (s : State) : Result := opAlr (.imm v) s

/-- ARR (R243). -/
def opArr (o : Operand) (s : State) : Result := withOperand o arrCore s

/-- 0x6B ARR Immediate, R243. -/
def execArrImm (v : Byte) (s : State) : Result := opArr (.imm v) s

/-- AXS (R244). -/
def opAxs (o : Operand) (s : State) : Result := withOperand o axsCore s

/-- 0xCB AXS Immediate, R244. -/
def execAxsImm (v : Byte) (s : State) : Result := opAxs (.imm v) s

/-- 0xEB SBC Immediate, R245. -/
def execSbcImmEB (v : Byte) (s : State) : Result := opSbc (.imm v) s

/-- 0x02, no table entry (JAM), R246. -/
def execJam02 (s : State) : Result := raiseUnhandled 0x02 s

/-- 0x12, no table entry (JAM), R246. -/
def execJam12 (s : State) : Result := raiseUnhandled 0x12 s

/-- 0x22, no table entry (JAM), R246. -/
def execJam22 (s : State) : Result := raiseUnhandled 0x22 s

/-- 0x32, no table entry (JAM), R246. -/
def execJam32 (s : State) : Result := raiseUnhandled 0x32 s

/-- 0x42, no table entry (JAM), R246. -/
def execJam42 (s : State) : Result := raiseUnhandled 0x42 s

/-- 0x52, no table entry (JAM), R246. -/
def execJam52 (s : State) : Result := raiseUnhandled 0x52 s

/-- 0x62, no table entry (JAM), R246. -/
def execJam62 (s : State) : Result := raiseUnhandled 0x62 s

/-- 0x72, no table entry (JAM), R246. -/
def execJam72 (s : State) : Result := raiseUnhandled 0x72 s

/-- 0x8B, no table entry (XAA), R246. -/
def execXaa8B (s : State) : Result := raiseUnhandled 0x8B s

/-- 0x92, no table entry (JAM), R246. -/
def execJam92 (s : State) : Result := raiseUnhandled 0x92 s

/-- 0x93, no table entry (AHX), R246. -/
def execAhx93 (s : State) : Result := raiseUnhandled 0x93 s

/-- 0x9B, no table entry (TAS), R246. -/
def execTas9B (s : State) : Result := raiseUnhandled 0x9B s

/-- 0x9C, no table entry (SHY), R246. -/
def execShy9C (s : State) : Result := raiseUnhandled 0x9C s

/-- 0x9E, no table entry (SHX), R246. -/
def execShx9E (s : State) : Result := raiseUnhandled 0x9E s

/-- 0x9F, no table entry (AHX), R246. -/
def execAhx9F (s : State) : Result := raiseUnhandled 0x9F s

/-- 0xAB, no table entry (LXA), R246. -/
def execLxaAB (s : State) : Result := raiseUnhandled 0xAB s

/-- 0xB2, no table entry (JAM), R246. -/
def execJamB2 (s : State) : Result := raiseUnhandled 0xB2 s

/-- 0xBB, no table entry (LAS), R246. -/
def execLasBB (s : State) : Result := raiseUnhandled 0xBB s

/-- 0xD2, no table entry (JAM), R246. -/
def execJamD2 (s : State) : Result := raiseUnhandled 0xD2 s

/-- 0xF2, no table entry (JAM), R246. -/
def execJamF2 (s : State) : Result := raiseUnhandled 0xF2 s

end Sys2Proof.Machine
end

