-- ==== Sys2Proof/Machine/Fetch.lean ====
section
/-!
DEFINITION. Fetching the instruction at `PC` (rules R80, R83, R86, R103, R70). Every byte is read through the bus when
`step()` needs it, with nothing prefetched between steps.

The spec's handlers read their own operand bytes. In every instruction but the branches and JSR those reads are the
handler's first accesses (R91 to R99, R209, R210, R232), so the fetch makes them, in the handler's order, and the
instruction carries the bytes. A branch reads its offset only when it is taken (R200); JSR reads its target after both
pushes (R211), which its meaning does. A byte the fetch does not read is only looked at (`peek`), to name the
instruction; no meaning uses it (log entry 8).
-/

namespace Sys2Proof.Machine

/-- The byte at an address without an access: 0x00 where a read would be fatal. -/
def peek (s : State) (addr : Addr) : Byte :=
  match memRead s addr with
  | .ok v => v
  | .error _ => 0x00

/-- The branch condition of a branch. -/
def branchCond : Instr → Option Cond
  | .bcc _ => some condBcc
  | .bcs _ => some condBcs
  | .beq _ => some condBeq
  | .bne _ => some condBne
  | .bmi _ => some condBmi
  | .bpl _ => some condBpl
  | .bvc _ => some condBvc
  | .bvs _ => some condBvs
  | _ => none

/-- How many operand bytes the fetch reads: all of them, but a branch's only when it is taken (R200), and none of
JSR's (R211). -/
def operandReads (i : Instr) (p : Byte) : Nat :=
  match i with
  | .jsr _ => 0
  | i =>
    match branchCond i with
    | some c => if c.holds p then 1 else 0
    | none => i.length - 1

/-- The reads of `n` operand bytes, in order, for the fatal condition they can meet (R267). -/
def readOperandBytes (s : State) : Nat → Except Fault Unit
  | 0 => .ok ()
  | n + 1 => do
    readOperandBytes s n
    discard (memRead s (s.pc + 1 + BitVec.ofNat 16 n))

/-! ### The opcode table of the configuration -/

/-- The byte of spec/opcode_table.json whose record `OPTABLE` gives an opcode byte, if it gives one (R81, R10). -/
def tableByte (cfg : Config) (op : Byte) : Option Byte :=
  match cfg.opTable.find? (fun e => e.1 == op) with
  | some e => e.2
  | none => some op

/-- `OPTABLE[op]` (R83). -/
def tableEntry (cfg : Config) (op : Byte) : Option OpEntry := (tableByte cfg op).bind fun r => (opRowOf r).entry

/-- The instruction of an opcode byte read at `PC`; a byte with no entry in `OPTABLE` is fatal before any handler runs
(R83, R86). -/
def instrAt (s : State) (op : Byte) : Except Fault Instr :=
  match tableByte s.cfg op, tableEntry s.cfg op with
  | some r, some _ => .ok ((opRowOf r).form.build (peek s (s.pc + 1)) (peek s (s.pc + 2)))
  | _, _ => .error (.unhandledOpcode op s.pc)

/-! ### The fetch -/

/-- The fetch and decode of `step()` (R83), with its fatal conditions in their order (R273). -/
def fetch (s : State) : Except Fault Instr := do
  let op ← memRead s s.pc
  let i ← instrAt s op
  readOperandBytes s (operandReads i s.p)
  return i

end Sys2Proof.Machine
end

