-- ==== Sys2Proof/Machine/Step.lean ====
section
/-!
DEFINITION. One step of the machine (rule R83), and the host's way to place one instruction where the next step
fetches it.
-/

namespace Sys2Proof.Machine

/-- `step()`: fetch, then the instruction's meaning. Whether `step()` returns continue or halt is
`Machine/Run.lean`'s `stepResult`. -/
def step (s : State) : Host.Outcome State Fault Refusal :=
  match fetch s with
  | .ok i => exec i s
  | .error f => .fault f

/-- Is the address a cell of a RAM device? -/
def writable (s : State) (addr : Addr) : Bool :=
  match route s.cfg addr with
  | .device .ram _ => true
  | _ => false

/-- Write a byte of a RAM device from outside (rule R302, the host's write). -/
def placeByte (addr : Addr) (v : Byte) (s : State) : State :=
  match memWrite s addr v with
  | .ok t => t
  | .error _ => s

/-- RAM everywhere, the PPU window included: what `State.withFetchWord` needs where `PC` points at no RAM. -/
def withRamEverywhere (s : State) : State := { s with cfg := { s.cfg with regions := [fullRam], ppuDevice := some .ram } }

/-- A table that gives the byte its own record: what `State.withFetchWord` needs where `OPTABLE` gives it another. -/
def withOwnRecord (op : Byte) (s : State) : State :=
  if tableByte s.cfg op = some op then s else { s with cfg := { s.cfg with opTable := [] } }

/-- `s` with the instruction whose bits are `w` (numbered as spec/opcode_table.json numbers them) stored at `PC`, as
the loader of rule R294 stores a program. Where one of the three bytes is no RAM cell, RAM is attached everywhere first;
where `OPTABLE` gives the opcode byte no record or another one, the table becomes that of opcode_table.json. -/
def State.withFetchWord (s : State) (nbits w : Nat) : State :=
  let s := if writable s s.pc && writable s (s.pc + 1) && writable s (s.pc + 2) then s else withRamEverywhere s
  match tableWordBytes nbits w with
  | [b0, b1, b2] => withOwnRecord b0 (placeByte (s.pc + 2) b2 (placeByte (s.pc + 1) b1 (placeByte s.pc b0 s)))
  | _ => s

end Sys2Proof.Machine
end

