-- ==== Sys2Proof/Machine/Reset.lean ====
section
/-!
DEFINITION. The host's operations before and between steps: construction (R290), `reset()` (R291 to R293), the load
contract (R294). They are no part of a step.
-/

namespace Sys2Proof.Machine

/-- Construction of the CPU with its bus (R290): no bus access. `mem` is `MEM0`. -/
def construct (cfg : Config) (mem : Memory) : State where
  pc := 0x0000
  a := 0x00
  x := 0x00
  y := 0x00
  sp := 0xFD
  p := cfg.pReset
  mem := mem
  cfg := cfg

/-- The reset vector's address (R292). -/
def resetVector : Addr := 0xFFFC

/-- `reset()` (R291): every register gets a value, `PC` the word at the reset vector; no memory is written (R293). -/
def resetCpu (s : State) : Result :=
  match memReadWide s resetVector with
  | .ok w => .next { construct s.cfg s.mem with pc := w }
  | .error f => .fault f

/-- Where the loader puts a program (R294). -/
def programStart : Addr := 0x8000

/-- The longest program of the load contract (R294, U16). -/
def programLimit : Nat := 0x7FFC

/-- The bytes written at rising addresses through the bus (R294). -/
def writeBytes (addr : Addr) : List Byte → State → Except Fault State
  | [], s => .ok s
  | v :: rest, s => do
    let t ← memWrite s addr v
    writeBytes (addr + 1) rest t

/-- The program load contract (R294): the program at 0x8000, the vector set to 0x8000, then `reset()`. -/
def loadProgram (program : List Byte) (s : State) : Result :=
  if programLimit < program.length then .refused .programTooLong
  else
    match (do
      let t ← writeBytes programStart program s
      memWriteWide t resetVector programStart) with
    | .ok t => resetCpu t
    | .error f => .fault f

end Sys2Proof.Machine
end

