-- ==== Sys2Proof/Machine/Run.lean ====
section
/-!
DEFINITION. What `step()` returns to the host (rules R5, R85) and the host's loop (rules R294, R295). The halt is a
result of the step, not a piece of state (R36, log entry 7).
-/

namespace Sys2Proof.Machine

/-- The results of `step()` (R5): continue, halt, or a fatal condition; and a refusal, which no step gives. -/
inductive StepResult
  | goOn (s : State)
  | halt (s : State)
  | fatal (f : Fault)
  | refused (r : Refusal)
  deriving DecidableEq, Repr

/-- Is the opcode byte at `PC` the software break (R85)? -/
def atBreak (s : State) : Bool :=
  match memRead s s.pc with
  | .ok op => op == 0x00
  | .error _ => false

/-- `step()` with its return value: halt exactly when the opcode byte read was 0x00 (R85). -/
def stepResult (s : State) : StepResult :=
  match step s with
  | .next t => if atBreak s then .halt t else .goOn t
  | .fault f => .fatal f
  | .refused r => .refused r

/-- How a run ends within a number of steps (R295). -/
inductive RunResult
  | running (s : State)
  | halted (s : State)
  | fatal (f : Fault)
  | refused (r : Refusal)
  deriving DecidableEq, Repr

/-- `while step() == continue: nothing`, at most `n` steps (R294, R295). -/
def runToHalt : Nat → State → RunResult
  | 0, s => .running s
  | n + 1, s =>
    match stepResult s with
    | .goOn t => runToHalt n t
    | .halt t => .halted t
    | .fatal f => .fatal f
    | .refused r => .refused r

end Sys2Proof.Machine
end

