-- ==== Sys2Proof/WellFormed.lean ====
section
/-!
DEFINITION. Which terms of `Instr` are instructions the machine admits (rule R87: "236 have a table entry and 20 do
not"). There is ONE check: the opcode byte has a table entry. Nothing else can be wrong with a term: every operand is
exactly as wide as its field (`Byte` or `Addr`) and "Every operand byte value is legal for every instruction" (R107).
-/

namespace Sys2Proof

/-- Has the instruction's opcode byte an entry in OPTABLE? False for exactly the twenty bytes of rules R107 and R246. -/
def Instr.hasTableEntry : Instr → Bool
  | .jam02 | .jam12 | .jam22 | .jam32 | .jam42 | .jam52 | .jam62 | .jam72 | .xaa8B | .jam92 | .ahx93 | .tas9B
  | .shy9C | .shx9E | .ahx9F | .lxaAB | .jamB2 | .lasBB | .jamD2 | .jamF2 => false
  | _ => true

/-- An admitted instruction. -/
abbrev Instr.WellFormed (i : Instr) : Prop := i.hasTableEntry = true

end Sys2Proof
end

