-- ==== Sys2Proof/Safety.lean ====
section
/-!
DEFINITION. The terms claims about runs use: the launch premises on the configuration (rules R61 to R64, R294), the
invariants of the state, what a step may and may not raise (R269), and which addresses name one cell (R50, R52).
-/

namespace Sys2Proof.Machine

/-! ### Launch premises -/

/-- Two closed intervals share no address (R61). -/
def Region.disjoint (q r : Region) : Bool := decide (q.last < r.first) || decide (r.last < q.first)

/-- Pairwise disjoint regions (R61, U15). -/
def regionsDisjoint : List Region → Bool
  | [] => true
  | r :: rest => rest.all (fun q => Region.disjoint r q) && regionsDisjoint rest

/-- How many program-ROM bytes a ROM device has: `pages * 16384` (R64). -/
def romLength : RomPages → Nat
  | .one => 0x4000
  | .two => 0x8000

/-- A device that can stand at addresses `first` and up: a ROM stands from 0x8000 up and lists no byte past its length
(R64). -/
def Device.fits (first : Addr) : Device → Bool
  | .rom pages prg => decide (0x8000 ≤ first) && Memory.wfFrom 0 (romLength pages) prg
  | .ram | .null => true

/-- The launch premises on `REGIONS` and `PPU_DEVICE`: `start <= end` (R62), disjoint (R61), ROM devices where R64
describes them. -/
def Config.launchable (c : Config) : Bool :=
  c.regions.all (fun r => decide (r.first ≤ r.last) && Device.fits r.first r.device) && regionsDisjoint c.regions &&
    (match c.ppuDevice with | some d => Device.fits 0x2000 d | none => true)

/-- The premise R56 asks for by name: RAM behind the zero page, the stack and the rest of the 2 KiB. -/
def Config.ramBehindWindow (c : Config) : Bool :=
  c.regions.any fun r => r.first == 0x0000 && decide (0x07FF ≤ r.last) && r.device == .ram

/-! ### Cells -/

/-- Two addresses name one place: they are routed to the same device and address (R50, R52). -/
def sameCell (cfg : Config) (a b : Addr) : Prop := route cfg a = route cfg b

/-- A key a device can be handed: the RAM window masks to 0x0000 to 0x07FF, the PPU window to 0x2000 to 0x2007, and
other addresses are not masked (R52, R54, R63). -/
def reachableKey (k : Nat) : Bool := decide (k < 0x0800) || (decide (0x2000 ≤ k) && decide (k < 0x2008)) ||
  (decide (0x4000 ≤ k) && decide (k < 0x10000))

/-! ### Invariants of the state -/

/-- Memory is in canonical form and lists reachable cells only. -/
structure MemoryInv (s : State) : Prop where
  canonical : Memory.wf s.mem = true
  reachable : ∀ c ∈ s.mem, reachableKey c.1 = true

/-- Exactly one of the live bits BREAK and BREAK2 is set: BREAK after `reset()`, BREAK2 after a PLP or RTI (R29). -/
def LiveBitsInv (s : State) : Prop := hasFlag s.p .b ≠ hasFlag s.p .u

/-! ### Fatal conditions of a step -/

/-- The fatal conditions a step from `s` can meet (R269), with what each carries: the byte and the address of an
opcode with no table entry; an address of the PPU window with no PPU device; the address a ROM device is handed. -/
def StepCanRaise (s : State) : Fault → Prop
  | .unhandledOpcode op opaddr => opaddr = s.pc ∧ memRead s s.pc = .ok op ∧ tableEntry s.cfg op = none
  | .ppuAccess addr => 0x2000 ≤ addr ∧ addr ≤ 0x3FFF ∧ s.cfg.ppuDevice = none
  | .romWrite a => ∃ addr pages prg, route s.cfg addr = .device (.rom pages prg) a
  | .overflow | .regionConflict | .unsupportedAddressingMode | .malformedCartridge => False

end Sys2Proof.Machine
end

