-- ==== Sys2Proof/Certificates/Slice0/Obligations.lean ====
section
/-!
DEFINITION. The statements about the model, for the provers. Each is a `def Obligations.<Name> : Prop`; OBLIGATIONS.json
lists them with the rules they formalise.

The shapes the statements share stand first, under `Sys2Proof.Claim`. Flags and results are written there by exact
arithmetic on integers, not by the model's own flag computations. The record `{ … with … }` on the right of an equation
is the frame: what it does not name is unchanged.
-/

open Sys2Proof Sys2Proof.Machine

namespace Sys2Proof.Claim

/-! ### Shapes -/

/-- The opcode bytes of a mnemonic with the mode tag of each (an Encoding line): exactly these. -/
def EncodedAs (m : Mnemonic) (rows : List (Byte × ModeTag)) : Prop :=
  ∀ i : Instr, i.mnemonic = m ↔ (i.opcode, operandTag i.operand) ∈ rows

/-- The address after the instruction at `PC`: `wrap16(opaddr + length)`. -/
def nextPc (i : Instr) (s : State) : Addr := s.pc + BitVec.ofNat 16 i.length

/-- The instructions in `p` read their operand byte, have the effect, and go on to the next instruction; a read that is
fatal makes them fatal. -/
def ReadsWhen (p : Instr → Prop) (effect : Byte → State → State) : Prop :=
  ∀ (i : Instr) (s : State), p i →
    (∀ m, operandValue i.operand s = .ok m → exec i s = .next { effect m s with pc := nextPc i s }) ∧
    (∀ f, operandValue i.operand s = .error f → exec i s = .fault f)

/-- `ReadsWhen` for every form of a mnemonic, with its Encoding line. -/
def Reads (m : Mnemonic) (rows : List (Byte × ModeTag)) (effect : Byte → State → State) : Prop :=
  EncodedAs m rows ∧ ReadsWhen (fun i => i.mnemonic = m) effect

/-- Every form of a mnemonic stores the value at its effective address and changes nothing else but `PC`; a fatal access
makes it fatal. -/
def Stores (m : Mnemonic) (rows : List (Byte × ModeTag)) (value : State → Byte) : Prop :=
  EncodedAs m rows ∧ ∀ (i : Instr) (s : State), i.mnemonic = m →
    (∀ a t, effectiveAddress i.operand s = .ok a → memWrite s a (value s) = .ok t →
      exec i s = .next { t with pc := nextPc i s }) ∧
    (∀ f, (do let a ← effectiveAddress i.operand s; memWrite s a (value s)) = .error f → exec i s = .fault f)

/-- The instructions in `p` read the byte at their effective address, write `result` back there, leave `newA` in A and
`newP` in P, and change nothing else but `PC`; a fatal access makes them fatal. The functions are given the byte read
and the state before. -/
def ModifiesWhen (p : Instr → Prop) (result newA newP : Byte → State → Byte) : Prop :=
  ∀ (i : Instr) (s : State), p i →
    (∀ a v t, effectiveAddress i.operand s = .ok a → memRead s a = .ok v → memWrite s a (result v s) = .ok t →
      exec i s = .next { t with a := newA v s, p := newP v s, pc := nextPc i s }) ∧
    (∀ f, (do
        let a ← effectiveAddress i.operand s
        let v ← memRead s a
        memWrite s a (result v s)) = .error f → exec i s = .fault f)

/-- `ModifiesWhen` for every form of a mnemonic, with its Encoding line. -/
def Modifies (m : Mnemonic) (rows : List (Byte × ModeTag)) (result newA newP : Byte → State → Byte) : Prop :=
  EncodedAs m rows ∧ ModifiesWhen (fun i => i.mnemonic = m) result newA newP

/-- Every form of a mnemonic has only an immediate operand, has the effect and goes on; it never stops. -/
def ActsOnImmediate (m : Mnemonic) (rows : List (Byte × ModeTag)) (effect : Byte → State → State) : Prop :=
  EncodedAs m rows ∧ ∀ (i : Instr) (s : State), i.mnemonic = m →
    ∃ v, i.operand = .imm v ∧ exec i s = .next { effect v s with pc := nextPc i s }

/-- The one-byte instruction of a mnemonic has the effect on registers and flags and goes on; it never stops. -/
def ActsAs (m : Mnemonic) (op : Byte) (effect : State → State) : Prop :=
  EncodedAs m [(op, .noneAddressing)] ∧
    ∀ (i : Instr) (s : State), i.mnemonic = m → exec i s = .next { effect s with pc := s.pc + 1 }

/-! ### Flags and results by exact arithmetic -/

/-- `P` after `setZN(v)`: Z and N from `v`, the other bits of `p`. -/
def zn (v p : Byte) : Byte := putFlag .n (decide (128 ≤ v.toNat)) (putFlag .z (decide (v.toNat = 0)) p)

/-- Is an integer outside -128..127? -/
def outside (n : Int) : Bool := decide (n < -128 ∨ 127 < n)

/-- The adder's result. -/
def added (a m : Byte) (c : Bool) : Byte := BitVec.ofNat 8 (a.toNat + m.toNat + c.toNat)

/-- The adder's flags: C from the unsigned sum, V from the signed sum, Z and N from the result. -/
def addedP (a m : Byte) (c : Bool) (p : Byte) : Byte :=
  zn (added a m c) (putFlag .v (outside (a.toInt + m.toInt + c.toNat))
    (putFlag .c (decide (255 < a.toNat + m.toNat + c.toNat)) p))

/-- The subtraction's result: `wrap8(A - m - (1 - C))`. -/
def subtracted (a m : Byte) (c : Bool) : Byte := BitVec.ofInt 8 ((a.toNat : Int) - m.toNat - (1 - c.toNat))

/-- The subtraction's flags: C when no borrow was needed, V from the signed difference, Z and N from the result. -/
def subtractedP (a m : Byte) (c : Bool) (p : Byte) : Byte :=
  zn (subtracted a m c) (putFlag .v (outside (a.toInt - m.toInt - (1 - c.toNat)))
    (putFlag .c (decide ((m.toNat : Int) + (1 - c.toNat) ≤ a.toNat)) p))

/-- The comparison's flags: C when `reg >= m` unsigned, Z and N from the wrapped difference. -/
def comparedP (reg m p : Byte) : Byte :=
  zn (BitVec.ofInt 8 ((reg.toNat : Int) - m.toNat)) (putFlag .c (decide (m.toNat ≤ reg.toNat)) p)

/-- The value of the carry. -/
def carry (s : State) : Nat := (hasFlag s.p .c).toNat

/-- A byte shifted left, its low bit `c`: `(2 * v + c) mod 256`. -/
def shiftedLeft (v : Byte) (c : Nat) : Byte := BitVec.ofNat 8 (2 * v.toNat + c)

/-- A byte shifted right, its high bit `c`: `v / 2 + 128 * c`. -/
def shiftedRight (v : Byte) (c : Nat) : Byte := BitVec.ofNat 8 (v.toNat / 2 + 128 * c)

/-- `P` after a left shift's carry-out, bit 7. -/
def carryLeft (v p : Byte) : Byte := putFlag .c (decide (128 ≤ v.toNat)) p

/-- `P` after a right shift's carry-out, bit 0. -/
def carryRight (v p : Byte) : Byte := putFlag .c (decide (v.toNat % 2 = 1)) p

/-- The four shifts and rotates on the accumulator and on memory: the result and the carry-out. -/
def Shifts (m : Mnemonic) (rows : List (Byte × ModeTag)) (result : Byte → State → Byte) (carryOut : Byte → Byte → Byte) :
    Prop :=
  EncodedAs m rows ∧
    (∀ (i : Instr) (s : State), i.mnemonic = m → i.operand = .noneAddressing →
      exec i s = .next { s with a := result s.a s, p := zn (result s.a s) (carryOut s.a s.p), pc := s.pc + 1 }) ∧
    ModifiesWhen (fun i => i.mnemonic = m ∧ i.operand ≠ .noneAddressing) result (fun _ s => s.a)
      (fun v s => zn (result v s) (carryOut v s.p))

/-! ### Control transfers -/

/-- `PC` after a control transfer of `len` bytes to `target` (R84): the target, but under the test `value` a transfer to
`opaddr + 1` ends at `opaddr + len`. -/
def transferPc (s : State) (len target : Addr) : Addr :=
  if s.cfg.pcAlteredTest = .value ∧ target = s.pc + 1 then s.pc + len else target

/-- A branch instruction: its byte, and its target `opaddr + 2 + sext8(offset)` when the flag has the value. -/
def BranchesOn (op : Byte) (mk : Byte → Instr) (f : Flag) (value : Bool) : Prop :=
  ∀ (off : Byte) (s : State), encode (mk off) = [op, off] ∧
    exec (mk off) s = .next { s with
      pc := if hasFlag s.p f = value then transferPc s 2 (s.pc + 2 + off.signExtend 16) else s.pc + 2 }

/-- The address the stack pointer value selects: `0x0100 + SP`. -/
def stackAt (sp : Byte) : Addr := 0x0100 + sp.setWidth 16

/-! ### Who writes what (R21 to R24, R28) -/

/-- The instructions that can change a flag, the `written by` column of R28's table. -/
def flagWriters : Flag → List Mnemonic
  | .c => [.ADC, .SBC, .CMP, .CPX, .CPY, .ASL, .LSR, .ROL, .ROR, .CLC, .SEC, .PLP, .RTI, .SLO, .RLA, .SRE, .RRA, .DCP,
      .ISB, .ANC, .ALR, .ARR, .AXS]
  | .z | .n => [.LDA, .LDX, .LDY, .TAX, .TAY, .TXA, .TYA, .TSX, .PLA, .AND, .ORA, .EOR, .ADC, .SBC, .CMP, .CPX, .CPY,
      .BIT, .INC, .DEC, .INX, .INY, .DEX, .DEY, .ASL, .LSR, .ROL, .ROR, .PLP, .RTI, .SLO, .RLA, .SRE, .RRA, .LAX, .DCP,
      .ISB, .ANC, .ALR, .ARR, .AXS]
  | .i => [.SEI, .CLI, .PLP, .RTI]
  | .d => [.SED, .CLD, .PLP, .RTI]
  | .b | .u => [.PLP, .RTI]
  | .v => [.ADC, .SBC, .BIT, .CLV, .PLP, .RTI, .RRA, .ISB, .ARR]

/-- The instructions that can change a register: R21, R22, R23, and for SP TXS and every push and pull (R24). -/
def regWriters : Reg → List Mnemonic
  | .a => [.LDA, .PLA, .TXA, .TYA, .AND, .ORA, .EOR, .ADC, .SBC, .ASL, .LSR, .ROL, .ROR, .SLO, .RLA, .SRE, .RRA, .LAX,
      .ISB, .ANC, .ALR, .ARR]
  | .x => [.LDX, .TAX, .TSX, .INX, .DEX, .LAX, .AXS]
  | .y => [.LDY, .TAY, .INY, .DEY]
  | .sp => [.TXS, .PHA, .PHP, .PLA, .PLP, .JSR, .RTS, .BRK, .RTI]

/-- The byte a store, or a read-modify-write on a byte that held `v`, writes; none for every other mnemonic. -/
def storedByte (m : Mnemonic) (v : Byte) (s : State) : Option Byte :=
  match m with
  | .STA => some s.a
  | .STX => some s.x
  | .STY => some s.y
  | .SAX => some (s.a &&& s.x)
  | .INC | .ISB => some (v + 1)
  | .DEC | .DCP => some (v - 1)
  | .ASL | .SLO => some (shiftedLeft v 0)
  | .ROL | .RLA => some (shiftedLeft v (carry s))
  | .LSR | .SRE => some (shiftedRight v 0)
  | .ROR | .RRA => some (shiftedRight v (carry s))
  | _ => none

/-- What an instruction stores, address and byte, in order: a store or a read-modify-write on memory at its effective
address, a push at its stack bytes; nothing for every other form. -/
def stored (i : Instr) (s : State) : List (Addr × Byte) :=
  match i.mnemonic with
  | .PHA => [(stackAt s.sp, s.a)]
  | .PHP | .BRK => [(stackAt s.sp, s.p ||| 0x30)]
  | .JSR => [(stackAt s.sp, highByte (s.pc + 2)), (stackAt (s.sp - 1), lowByte (s.pc + 2))]
  | m =>
    match effectiveAddress i.operand s with
    | .error _ => []
    | .ok a =>
      let before : Byte := match memRead s a with
        | .ok v => v
        | .error _ => 0x00
      (storedByte m before s).toList.map fun v => (a, v)

/-! ### What a handler reads first -/

/-- The flag and the value on which a branch is taken (R201 to R208). -/
def branchOn : Mnemonic → Option (Flag × Bool)
  | .BCC => some (.c, false)
  | .BCS => some (.c, true)
  | .BEQ => some (.z, true)
  | .BNE => some (.z, false)
  | .BMI => some (.n, true)
  | .BPL => some (.n, false)
  | .BVC => some (.v, false)
  | .BVS => some (.v, true)
  | _ => none

/-- How many operand bytes the handler reads before any other access (R91 to R103): all of them, but none in JSR, which
pushes first (R211), and a branch's only when it is taken (R200). -/
def firstReads (i : Instr) (s : State) : Nat :=
  if i.mnemonic = .JSR then 0
  else
    match branchOn i.mnemonic with
    | some (f, value) => if hasFlag s.p f = value then 1 else 0
    | none => i.length - 1

/-- The control-transfer instructions (R84). -/
def transfers : List Mnemonic :=
  [.BCC, .BCS, .BEQ, .BNE, .BMI, .BPL, .BVC, .BVS, .JMP, .JSR, .RTS, .RTI]

/-- The same state but for the live bits BREAK and BREAK2 of `P`. -/
def SameButLiveBits (s t : State) : Prop :=
  { s with p := s.p &&& 0xCF } = { t with p := t.p &&& 0xCF }

/-- The twenty bytes of rules R107 and R246. -/
def noEntryBytes : List Byte :=
  [0x02, 0x12, 0x22, 0x32, 0x42, 0x52, 0x62, 0x72, 0x92, 0xB2, 0xD2, 0xF2, 0x8B, 0xAB, 0xBB, 0x9B, 0x93, 0x9F, 0x9E,
    0x9C]

/-- The address the bus looks up among the regions: masked in the RAM window (R52). -/
def lookedUp (a : Addr) : Addr := if a < 0x2000 then a &&& 0x07FF else a

/-- RAM behind the stack page: each of its addresses is routed to a RAM cell of its own. -/
def RamBehindStack (cfg : Config) : Prop := ∀ sp : Byte, route cfg (stackAt sp) = .device .ram (stackAt sp)

end Sys2Proof.Claim

open Sys2Proof.Claim

/-! ## Encoding and decoding -/

/-- R80, R106, R108: words written out from the opcode map decode to the instructions they stand for, one of each
family and shape. -/
def Obligations.SampleWordsDecode : Prop :=
  decode [0xA9, 0xFF] = .ok (.ldaImm 0xFF, []) ∧ decode [0x8D, 0x34, 0x12] = .ok (.staAbs 0x1234, []) ∧
  decode [0xAA] = .ok (.tax, []) ∧ decode [0x71, 0x10] = .ok (.adcIzy 0x10, []) ∧
  decode [0x6A] = .ok (.rorAcc, []) ∧ decode [0x08] = .ok (.php, []) ∧
  decode [0xD0, 0xF9] = .ok (.bne 0xF9, []) ∧ decode [0x6C, 0xFF, 0x30] = .ok (.jmpInd 0x30FF, []) ∧
  decode [0x00] = .ok (.brk, []) ∧ decode [0xFF, 0x01, 0x02] = .ok (.isbAbx 0x0201, []) ∧
  decode [0xEB, 0x01] = .ok (.sbcImmEB 0x01, []) ∧ decode [0x02] = .ok (.jam02, [])

/-- Every instruction, with every operand, is what its own bytes decode to, whatever follows them. -/
def Obligations.DecodeUndoesEncode : Prop :=
  ∀ (i : Instr) (rest : List Byte), decode (encode i ++ rest) = .ok (i, rest)

/-- The bytes the decoder takes are the bytes the encoder gives: no bit is dropped, no two words are one instruction. -/
def Obligations.EncodeUndoesDecode : Prop :=
  ∀ (bytes rest : List Byte) (i : Instr), decode bytes = .ok (i, rest) → encode i ++ rest = bytes

/-- R87, R107, R246: of the 256 opcode bytes exactly the twenty named have no table entry and decode to no well-formed
instruction; any other byte, with two bytes after it, decodes to a well-formed one. -/
def Obligations.TwentyBytesHaveNoEntry : Prop :=
  ∀ (op b1 b2 : Byte) (rest : List Byte), ((opRowOf op).entry = none ↔ op ∈ noEntryBytes) ∧
    ∃ i, decode (op :: b1 :: b2 :: rest) = .ok (i, (b1 :: b2 :: rest).drop (i.length - 1)) ∧ i.opcode = op ∧
      (i.WellFormed ↔ op ∉ noEntryBytes)

/-- R81, R82: the record of an instruction names its mnemonic and mode tag, and its length is its format's and the
number of its bytes. -/
def Obligations.TableLengthFollowsFormat : Prop :=
  ∀ (i : Instr) (e : OpEntry), i.entry = some e →
    e.mnemonic = i.mnemonic ∧ e.mode = operandTag i.operand ∧ e.length = i.length ∧ e.length = e.format.length

/-! ## The step -/

/-- R83, R273: let the opcode byte at `PC` be read, `OPTABLE` give it the record of the byte `r` (its own, in the default
table), and `i` be what `r` and two more bytes decode to. When the operand bytes that `i`'s handler reads first are what
`PC + 1` and `PC + 2` read as, the step is `i`'s meaning; where the read of one of them is fatal, with the address it
carries (R267), so is the step. A byte no handler reads may be any byte. That these reads stand before the meaning is how
the model splits a step (log entry 8). -/
def Obligations.StepRunsDecodedInstruction : Prop :=
  ∀ s : State,
    (∀ (op r b1 b2 : Byte) (i : Instr) (rest : List Byte), memRead s s.pc = .ok op → tableByte s.cfg op = some r →
      decode [r, b1, b2] = .ok (i, rest) → i.WellFormed →
      ((1 ≤ firstReads i s → memRead s (s.pc + 1) = .ok b1) → (2 ≤ firstReads i s → memRead s (s.pc + 2) = .ok b2) →
        step s = exec i s) ∧
      (∀ f, 1 ≤ firstReads i s → memRead s (s.pc + 1) = .error f → step s = .fault f) ∧
      (∀ v f, 2 ≤ firstReads i s → memRead s (s.pc + 1) = .ok v → memRead s (s.pc + 2) = .error f →
        step s = .fault f)) ∧
    (∀ f, memRead s s.pc = .error f → step s = .fault f)

/-- R246, R264, R86: a byte with no entry in `OPTABLE` is fatal, with the byte and the address it was read from, and no
operand byte is read. The default table leaves out the twenty bytes; a difference in the table (R10, log entry 6) counts
for its own byte, the first one first. -/
def Obligations.NoEntryIsFatal : Prop :=
  (∀ (i : Instr) (s : State), ¬ i.WellFormed → exec i s = .fault (.unhandledOpcode i.opcode s.pc)) ∧
  (∀ (s : State) (op : Byte), memRead s s.pc = .ok op → tableEntry s.cfg op = none →
    step s = .fault (.unhandledOpcode op s.pc)) ∧
  (∀ (cfg : Config) (op : Byte), cfg.opTable = [] →
    tableByte cfg op = some op ∧ (tableEntry cfg op = none ↔ op ∈ noEntryBytes)) ∧
  (∀ (cfg : Config) (op q : Byte) (e : Option Byte) (rest : List (Byte × Option Byte)), cfg.opTable = (q, e) :: rest →
    tableByte cfg op = if op = q then e else tableByte { cfg with opTable := rest } op)

/-- R85: `step()` returns halt exactly when the opcode byte read was 0x00 and the instruction completed. -/
def Obligations.HaltExactlyOnBreak : Prop :=
  ∀ s t : State, stepResult s = .halt t ↔ memRead s s.pc = .ok 0x00 ∧ step s = .next t

/-- R269, R261, R262, R265, R266: every fatal condition of a step is UnhandledOpcode with the byte at `PC`, which has no
entry in `OPTABLE`; PpuAccess with an address of the window; or RomWrite with an address that is routed to a ROM device.
No other kind, and no refusal, is possible. -/
def Obligations.StepRaisesOnlyItsConditions : Prop :=
  ∀ s : State, (∀ f, step s = .fault f → StepCanRaise s f) ∧ ∀ r, step s ≠ .refused r

/-- R269: with RAM at every address no admitted instruction can fail: each completes in every state, whatever its
operands, the registers and the flags hold. -/
def Obligations.EveryInstructionCompletesInRam : Prop :=
  ∀ (i : Instr) (s : State), (∀ a, ∃ x, route s.cfg a = .device .ram x) → i.WellFormed → ∃ t, exec i s = .next t

/-- R84: an instruction that is no control transfer ends at `wrap16(opaddr + length)`. -/
def Obligations.PlainInstructionsAdvancePc : Prop :=
  ∀ (i : Instr) (s t : State), i.mnemonic ∉ transfers → exec i s = .next t → t.pc = nextPc i s

/-- R84, R296: the two tests of "PC was not altered" agree but in the one case of a control transfer of two or three
bytes that ends, under `assignment`, at the address of its own second byte; under `value` it then ends past its bytes. -/
def Obligations.PcTestsAgreeOffTheHazard : Prop :=
  ∀ (i : Instr) (s t : State), exec i { s with cfg := { s.cfg with pcAlteredTest := .assignment } } = .next t →
    exec i { s with cfg := { s.cfg with pcAlteredTest := .value } } = .next { t with
      pc := if t.pc = s.pc + 1 then nextPc i s else t.pc, cfg := { t.cfg with pcAlteredTest := .value } }

/-- R200, R101: a branch that is not taken reads no offset byte: it completes even where its offset byte cannot be
read. -/
def Obligations.BranchNotTakenReadsNoOffset : Prop :=
  ∀ (s : State) (op r : Byte) (f : Flag) (value : Bool),
    (r, f, value) ∈ [((0x90 : Byte), Flag.c, false), (0xB0, .c, true), (0xF0, .z, true), (0xD0, .z, false),
      (0x30, .n, true), (0x10, .n, false), (0x50, .v, false), (0x70, .v, true)] →
    memRead s s.pc = .ok op → tableByte s.cfg op = some r → hasFlag s.p f ≠ value →
    step s = .next { s with pc := s.pc + 2 }

/-! ## Addressing modes -/

/-- R91 to R97: the effective addresses that come from the operand bytes and the index registers alone. R90: the operand
of every other mode than Immediate is the byte read at the effective address, which each mode has; R100: the resolver
has none for NoneAddressing. -/
def Obligations.DirectModesGiveAddress : Prop :=
  ∀ (s : State) (b : Byte) (w : Addr),
    effectiveAddress (.imm b) s = .ok (s.pc + 1) ∧ operandValue (.imm b) s = .ok b ∧
    effectiveAddress (.zp b) s = .ok (BitVec.ofNat 16 b.toNat) ∧
    effectiveAddress (.zpx b) s = .ok (BitVec.ofNat 16 ((b.toNat + s.x.toNat) % 256)) ∧
    effectiveAddress (.zpy b) s = .ok (BitVec.ofNat 16 ((b.toNat + s.y.toNat) % 256)) ∧
    effectiveAddress (.abs w) s = .ok w ∧
    effectiveAddress (.abx w) s = .ok (BitVec.ofNat 16 (w.toNat + s.x.toNat)) ∧
    effectiveAddress (.aby w) s = .ok (BitVec.ofNat 16 (w.toNat + s.y.toNat)) ∧
    (∀ o : Operand, (∀ v, o ≠ .imm v) → o ≠ .noneAddressing →
      ∃ a, effectiveAddress o s = .ok a ∧ operandValue o s = memRead s a) ∧
    effectiveAddress .noneAddressing s = .error .unsupportedAddressingMode

/-- R98, R99: the indirect modes read their pointer in the zero page, the high byte with zero-page wrap (for Indirect_Y
when INDY_ZP_WRAP, else from the address after the pointer), and Indirect_Y then adds Y with 16-bit wrap. All these
addresses lie in the RAM window, where no read is fatal, so both modes give an address in every state. -/
def Obligations.IndirectModesFollowPointer : Prop :=
  ∀ (s : State) (b : Byte),
    (∃ lo hi, memRead s (BitVec.ofNat 16 ((b.toNat + s.x.toNat) % 256)) = .ok lo ∧
      memRead s (BitVec.ofNat 16 ((b.toNat + s.x.toNat + 1) % 256)) = .ok hi ∧
      effectiveAddress (.izx b) s = .ok (BitVec.ofNat 16 (hi.toNat * 256 + lo.toNat))) ∧
    (∃ lo hi, memRead s (BitVec.ofNat 16 b.toNat) = .ok lo ∧
      memRead s (BitVec.ofNat 16 (if s.cfg.indyZpWrap then (b.toNat + 1) % 256 else b.toNat + 1)) = .ok hi ∧
      effectiveAddress (.izy b) s = .ok (BitVec.ofNat 16 (hi.toNat * 256 + lo.toNat + s.y.toNat)))

/-! ## Loads, stores, transfers -/

/-- R121, R122, R123. -/
def Obligations.LoadsSetRegisterZN : Prop :=
  Reads .LDA [(0xA1, .indirectX), (0xA5, .zeroPage), (0xA9, .immediate), (0xAD, .absolute),
      (0xB1, .indirectY), (0xB5, .zeroPageX), (0xB9, .absoluteY), (0xBD, .absoluteX)]
    (fun m s => { s with a := m, p := zn m s.p }) ∧
  Reads .LDX [(0xA2, .immediate), (0xA6, .zeroPage), (0xAE, .absolute), (0xB6, .zeroPageY),
      (0xBE, .absoluteY)]
    (fun m s => { s with x := m, p := zn m s.p }) ∧
  Reads .LDY [(0xA0, .immediate), (0xA4, .zeroPage), (0xAC, .absolute), (0xB4, .zeroPageX),
      (0xBC, .absoluteX)]
    (fun m s => { s with y := m, p := zn m s.p })

/-- R124, R125, R126. -/
def Obligations.StoresWriteRegister : Prop :=
  Stores .STA [(0x81, .indirectX), (0x85, .zeroPage), (0x8D, .absolute), (0x91, .indirectY),
      (0x95, .zeroPageX), (0x99, .absoluteY), (0x9D, .absoluteX)]
    (fun s => s.a) ∧
  Stores .STX [(0x86, .zeroPage), (0x8E, .absolute), (0x96, .zeroPageY)] (fun s => s.x) ∧
  Stores .STY [(0x84, .zeroPage), (0x8C, .absolute), (0x94, .zeroPageX)] (fun s => s.y)

/-- R127 to R132; TXS writes no flag. -/
def Obligations.TransfersCopyRegister : Prop :=
  ActsAs .TAX 0xAA (fun s => { s with x := s.a, p := zn s.a s.p }) ∧
  ActsAs .TAY 0xA8 (fun s => { s with y := s.a, p := zn s.a s.p }) ∧
  ActsAs .TXA 0x8A (fun s => { s with a := s.x, p := zn s.x s.p }) ∧
  ActsAs .TYA 0x98 (fun s => { s with a := s.y, p := zn s.y s.p }) ∧
  ActsAs .TSX 0xBA (fun s => { s with x := s.sp, p := zn s.sp s.p }) ∧
  ActsAs .TXS 0x9A (fun s => { s with sp := s.x })

/-! ## Logic, arithmetic, compare, bit test, increment, decrement -/

/-- R141, R142, R143. -/
def Obligations.LogicSetsAccumulatorZN : Prop :=
  Reads .AND [(0x21, .indirectX), (0x25, .zeroPage), (0x29, .immediate), (0x2D, .absolute),
      (0x31, .indirectY), (0x35, .zeroPageX), (0x39, .absoluteY), (0x3D, .absoluteX)]
    (fun m s => { s with a := s.a &&& m, p := zn (s.a &&& m) s.p }) ∧
  Reads .ORA [(0x01, .indirectX), (0x05, .zeroPage), (0x09, .immediate), (0x0D, .absolute),
      (0x11, .indirectY), (0x15, .zeroPageX), (0x19, .absoluteY), (0x1D, .absoluteX)]
    (fun m s => { s with a := s.a ||| m, p := zn (s.a ||| m) s.p }) ∧
  Reads .EOR [(0x41, .indirectX), (0x45, .zeroPage), (0x49, .immediate), (0x4D, .absolute),
      (0x51, .indirectY), (0x55, .zeroPageX), (0x59, .absoluteY), (0x5D, .absoluteX)]
    (fun m s => { s with a := s.a ^^^ m, p := zn (s.a ^^^ m) s.p })

/-- R144, R145, R146, R245: ADC adds the operand and the carry; SBC, the byte 0xEB included, subtracts the operand and the
borrow; both binary whatever DECIMAL holds. -/
def Obligations.AddSubtractWithCarry : Prop :=
  Reads .ADC [(0x61, .indirectX), (0x65, .zeroPage), (0x69, .immediate), (0x6D, .absolute),
      (0x71, .indirectY), (0x75, .zeroPageX), (0x79, .absoluteY), (0x7D, .absoluteX)]
    (fun m s => { s with a := added s.a m (hasFlag s.p .c), p := addedP s.a m (hasFlag s.p .c) s.p }) ∧
  Reads .SBC [(0xE1, .indirectX), (0xE5, .zeroPage), (0xE9, .immediate), (0xEB, .immediate),
      (0xED, .absolute), (0xF1, .indirectY), (0xF5, .zeroPageX), (0xF9, .absoluteY),
      (0xFD, .absoluteX)]
    (fun m s => { s with a := subtracted s.a m (hasFlag s.p .c), p := subtractedP s.a m (hasFlag s.p .c) s.p })

/-- R147 to R150. -/
def Obligations.ComparesSetCZN : Prop :=
  Reads .CMP [(0xC1, .indirectX), (0xC5, .zeroPage), (0xC9, .immediate), (0xCD, .absolute),
      (0xD1, .indirectY), (0xD5, .zeroPageX), (0xD9, .absoluteY), (0xDD, .absoluteX)]
    (fun m s => { s with p := comparedP s.a m s.p }) ∧
  Reads .CPX [(0xE0, .immediate), (0xE4, .zeroPage), (0xEC, .absolute)]
    (fun m s => { s with p := comparedP s.x m s.p }) ∧
  Reads .CPY [(0xC0, .immediate), (0xC4, .zeroPage), (0xCC, .absolute)]
    (fun m s => { s with p := comparedP s.y m s.p })

/-- R151, for every BIT_N_MASK: Z assigned, N and V only ever set, each flag by itself; a fatal operand read is fatal. -/
def Obligations.BitAssignsZAndOnlySetsNV : Prop :=
  EncodedAs .BIT [(0x24, .zeroPage), (0x2C, .absolute)] ∧ ∀ (i : Instr) (s : State), i.mnemonic = .BIT →
    (∀ m, operandValue i.operand s = .ok m →
      ∃ p, exec i s = .next { s with p := p, pc := nextPc i s } ∧ hasFlag p .z = (s.a &&& m == 0) ∧
        hasFlag p .n = (hasFlag s.p .n || (m &&& s.cfg.bitNMask != 0)) ∧
        hasFlag p .v = (hasFlag s.p .v || m.getLsbD 6) ∧
        ∀ f, f ≠ .z → f ≠ .n → f ≠ .v → hasFlag p f = hasFlag s.p f) ∧
    (∀ f, operandValue i.operand s = .error f → exec i s = .fault f)

/-- R152 to R157: increments and decrements of memory and of the index registers wrap modulo 256 and set Z and N. -/
def Obligations.IncDecWrapAndSetZN : Prop :=
  Modifies .INC [(0xE6, .zeroPage), (0xEE, .absolute), (0xF6, .zeroPageX), (0xFE, .absoluteX)]
    (fun v _ => v + 1) (fun _ s => s.a) (fun v s => zn (v + 1) s.p) ∧
  Modifies .DEC [(0xC6, .zeroPage), (0xCE, .absolute), (0xD6, .zeroPageX), (0xDE, .absoluteX)]
    (fun v _ => v - 1) (fun _ s => s.a) (fun v s => zn (v - 1) s.p) ∧
  ActsAs .INX 0xE8 (fun s => { s with x := s.x + 1, p := zn (s.x + 1) s.p }) ∧
  ActsAs .INY 0xC8 (fun s => { s with y := s.y + 1, p := zn (s.y + 1) s.p }) ∧
  ActsAs .DEX 0xCA (fun s => { s with x := s.x - 1, p := zn (s.x - 1) s.p }) ∧
  ActsAs .DEY 0x88 (fun s => { s with y := s.y - 1, p := zn (s.y - 1) s.p })

/-! ## Shifts and rotates -/

/-- R171 to R174, R170: the accumulator and the memory forms of the shifts and rotates. -/
def Obligations.ShiftsMoveBitThroughCarry : Prop :=
  Shifts .ASL [(0x06, .zeroPage), (0x0A, .noneAddressing), (0x0E, .absolute), (0x16, .zeroPageX),
      (0x1E, .absoluteX)]
    (fun v _ => shiftedLeft v 0) carryLeft ∧
  Shifts .LSR [(0x46, .zeroPage), (0x4A, .noneAddressing), (0x4E, .absolute), (0x56, .zeroPageX),
      (0x5E, .absoluteX)]
    (fun v _ => shiftedRight v 0) carryRight ∧
  Shifts .ROL [(0x26, .zeroPage), (0x2A, .noneAddressing), (0x2E, .absolute), (0x36, .zeroPageX),
      (0x3E, .absoluteX)]
    (fun v s => shiftedLeft v (carry s)) carryLeft ∧
  Shifts .ROR [(0x66, .zeroPage), (0x6A, .noneAddressing), (0x6E, .absolute), (0x76, .zeroPageX),
      (0x7E, .absoluteX)]
    (fun v s => shiftedRight v (carry s)) carryRight

/-! ## Stack, flags, no-operations -/

/-- R180, R182: PHA and PHP write one byte at `0x0100 + SP` and decrement SP; PHP's has BREAK and BREAK2 set; no
register but SP and no flag changes. -/
def Obligations.PushesWriteStackByte : Prop :=
  encode .pha = [0x48] ∧ encode .php = [0x08] ∧ ∀ s : State,
    (∀ t, memWrite s (stackAt s.sp) s.a = .ok t → exec .pha s = .next { t with sp := s.sp - 1, pc := s.pc + 1 }) ∧
    (∀ f, memWrite s (stackAt s.sp) s.a = .error f → exec .pha s = .fault f) ∧
    (∀ t, memWrite s (stackAt s.sp) (s.p ||| 0x30) = .ok t →
      exec .php s = .next { t with sp := s.sp - 1, pc := s.pc + 1 }) ∧
    (∀ f, memWrite s (stackAt s.sp) (s.p ||| 0x30) = .error f → exec .php s = .fault f)

/-- R181, R183: PLA and PLP read the byte at `0x0100 + SP + 1` and increment SP; PLP forces BREAK clear and BREAK2
set. The stack page lies in the RAM window, where no read is fatal, so both complete in every state. -/
def Obligations.PullsReadStackByte : Prop :=
  encode .pla = [0x68] ∧ encode .plp = [0x28] ∧ ∀ s : State, ∃ v, memRead s (stackAt (s.sp + 1)) = .ok v ∧
    exec .pla s = .next { s with a := v, p := zn v s.p, sp := s.sp + 1, pc := s.pc + 1 } ∧
    exec .plp s = .next { s with p := putFlag .u true (putFlag .b false v), sp := s.sp + 1, pc := s.pc + 1 }

/-- R184 to R190: each flag instruction writes its one flag. -/
def Obligations.FlagInstructionsWriteOneFlag : Prop :=
  ActsAs .CLC 0x18 (fun s => { s with p := putFlag .c false s.p }) ∧
  ActsAs .SEC 0x38 (fun s => { s with p := putFlag .c true s.p }) ∧
  ActsAs .CLI 0x58 (fun s => { s with p := putFlag .i false s.p }) ∧
  ActsAs .SEI 0x78 (fun s => { s with p := putFlag .i true s.p }) ∧
  ActsAs .CLD 0xD8 (fun s => { s with p := putFlag .d false s.p }) ∧
  ActsAs .SED 0xF8 (fun s => { s with p := putFlag .d true s.p }) ∧
  ActsAs .CLV 0xB8 (fun s => { s with p := putFlag .v false s.p })

/-- R191, R231, R232: every no-operation moves `PC` past its bytes and changes nothing else; one with an operand reads
it, and is fatal where that read is. -/
def Obligations.NopsOnlyAdvance : Prop :=
  EncodedAs .NOP [(0x04, .zeroPage), (0x0C, .absolute), (0x14, .zeroPageX), (0x1A, .noneAddressing),
      (0x1C, .absoluteX), (0x34, .zeroPageX), (0x3A, .noneAddressing), (0x3C, .absoluteX),
      (0x44, .zeroPage), (0x54, .zeroPageX), (0x5A, .noneAddressing), (0x5C, .absoluteX),
      (0x64, .zeroPage), (0x74, .zeroPageX), (0x7A, .noneAddressing), (0x7C, .absoluteX),
      (0x80, .immediate), (0x82, .immediate), (0x89, .immediate), (0xC2, .immediate),
      (0xD4, .zeroPageX), (0xDA, .noneAddressing), (0xDC, .absoluteX), (0xE2, .immediate),
      (0xEA, .noneAddressing), (0xF4, .zeroPageX), (0xFA, .noneAddressing), (0xFC, .absoluteX)] ∧
  (∀ (i : Instr) (s : State), i.mnemonic = .NOP → i.operand = .noneAddressing →
    exec i s = .next { s with pc := s.pc + 1 }) ∧
  ReadsWhen (fun i => i.mnemonic = .NOP ∧ i.operand ≠ .noneAddressing) (fun _ s => s)

/-- R27, R34: writing a flag writes its bit, at the position R27 gives, and no other; toggling inverts it. -/
def Obligations.FlagOperationsTouchOneBit : Prop :=
  ∀ (f : Flag) (v : Bool) (p : Byte) (k : Nat), (f, k) ∈ [(Flag.c, 0), (.z, 1), (.i, 2), (.d, 3), (.b, 4), (.u, 5),
      (.v, 6), (.n, 7)] →
    hasFlag p f = p.getLsbD k ∧ (putFlag f v p).getLsbD k = v ∧ (toggleFlag f p).getLsbD k = !p.getLsbD k ∧
    ∀ j, j < 8 → j ≠ k → (putFlag f v p).getLsbD j = p.getLsbD j ∧ (toggleFlag f p).getLsbD j = p.getLsbD j

/-! ## Branches, jumps, call, return -/

/-- R200 to R208, R101, with R84's program-counter rule under both tests. -/
def Obligations.BranchesTakeOnFlag : Prop :=
  BranchesOn 0x90 .bcc .c false ∧ BranchesOn 0xB0 .bcs .c true ∧ BranchesOn 0xF0 .beq .z true ∧
  BranchesOn 0xD0 .bne .z false ∧ BranchesOn 0x30 .bmi .n true ∧ BranchesOn 0x10 .bpl .n false ∧
  BranchesOn 0x50 .bvc .v false ∧ BranchesOn 0x70 .bvs .v true

/-- R209, R210, R102: JMP absolute goes to its operand; JMP indirect to the word at its pointer, whose high byte comes
from the start of the same page when the pointer's low byte is 0xFF; no register, flag or memory changes. A fatal read of
the low byte is fatal; that of the high byte never is then, since it comes from the same page. -/
def Obligations.JumpsGoToTarget : Prop :=
  ∀ (w : Addr) (s : State),
    let high : Addr := if w.toNat % 256 = 255 then BitVec.ofNat 16 (w.toNat - 255) else w + 1
    encode (.jmpAbs w) = [0x4C, lowByte w, highByte w] ∧ encode (.jmpInd w) = [0x6C, lowByte w, highByte w] ∧
    exec (.jmpAbs w) s = .next { s with pc := transferPc s 3 w } ∧
    (∀ lo, memRead s w = .ok lo → ∃ hi, memRead s high = .ok hi ∧
      exec (.jmpInd w) s = .next { s with pc := transferPc s 3 (BitVec.ofNat 16 (hi.toNat * 256 + lo.toNat)) }) ∧
    (∀ f, memRead s w = .error f → exec (.jmpInd w) s = .fault f)

/-- R211, R32: JSR pushes `opaddr + 2`, high byte first, then reads its target from its operand bytes; the first of these
four accesses that is fatal makes it fatal. -/
def Obligations.JsrPushesThenReadsTarget : Prop :=
  ∀ (w : Addr) (s : State), encode (.jsr w) = [0x20, lowByte w, highByte w] ∧
    (∀ f, memWrite s (stackAt s.sp) (highByte (s.pc + 2)) = .error f → exec (.jsr w) s = .fault f) ∧
    ∀ t1, memWrite s (stackAt s.sp) (highByte (s.pc + 2)) = .ok t1 →
      (∀ f, memWrite t1 (stackAt (s.sp - 1)) (lowByte (s.pc + 2)) = .error f → exec (.jsr w) s = .fault f) ∧
      ∀ t2, memWrite t1 (stackAt (s.sp - 1)) (lowByte (s.pc + 2)) = .ok t2 →
        (∀ f, memRead t2 (s.pc + 1) = .error f → exec (.jsr w) s = .fault f) ∧
        ∀ lo, memRead t2 (s.pc + 1) = .ok lo →
          (∀ f, memRead t2 (s.pc + 2) = .error f → exec (.jsr w) s = .fault f) ∧
          ∀ hi, memRead t2 (s.pc + 2) = .ok hi →
            exec (.jsr w) s = .next { t2 with
              sp := s.sp - 2, pc := transferPc s 3 (BitVec.ofNat 16 (hi.toNat * 256 + lo.toNat)) }

/-- R212, R33: RTS pulls a word, low byte first, and goes to the address after it, in every state. -/
def Obligations.RtsReturnsPastPulledWord : Prop :=
  encode .rts = [0x60] ∧ ∀ s : State, ∃ lo hi, memRead s (stackAt (s.sp + 1)) = .ok lo ∧
    memRead s (stackAt (s.sp + 2)) = .ok hi ∧
    exec .rts s = .next { s with sp := s.sp + 2, pc := BitVec.ofNat 16 (hi.toNat * 256 + lo.toNat + 1) }

/-- R211, R212 together: with RAM behind the stack page, an RTS executed in the state a JSR left, wherever the
subroutine's `PC` is, returns to the address after the JSR and restores SP. -/
def Obligations.RtsUndoesJsr : Prop :=
  ∀ (w pc' : Addr) (s t : State), RamBehindStack s.cfg → Memory.wf s.mem = true → exec (.jsr w) s = .next t →
    exec .rts { t with pc := pc' } = .next { t with pc := s.pc + 3, sp := s.sp }

/-- R30 to R33, R24: pushing a word and pulling it gives the word back and restores SP, wherever SP wraps, with RAM
behind the stack page. -/
def Obligations.PullUndoesPush : Prop :=
  ∀ (w : Addr) (v : Byte) (s : State), RamBehindStack s.cfg → Memory.wf s.mem = true →
    (∃ t, push8 v s = .ok t ∧ t.sp = s.sp - 1 ∧ pull8 t = .ok (v, { t with sp := s.sp })) ∧
    (∃ t, push16 w s = .ok t ∧ t.sp = s.sp - 2 ∧ pull16 t = .ok (w, { t with sp := s.sp }))

/-! ## System instructions -/

/-- R220, R274: BRK pushes P with BREAK and BREAK2 set, one byte; no register but SP and PC, and no flag, changes. -/
def Obligations.BrkPushesStatusOnly : Prop :=
  encode .brk = [0x00] ∧ ∀ s : State,
    (∀ t, memWrite s (stackAt s.sp) (s.p ||| 0x30) = .ok t →
      exec .brk s = .next { t with sp := s.sp - 1, pc := s.pc + 1 }) ∧
    (∀ f, memWrite s (stackAt s.sp) (s.p ||| 0x30) = .error f → exec .brk s = .fault f)

/-- R221, R275: RTI restores P, BREAK clear and BREAK2 set, then PC with nothing added, from three stack bytes, in every
state. -/
def Obligations.RtiRestoresStatusAndPc : Prop :=
  encode .rti = [0x40] ∧ ∀ s : State, ∃ v lo hi, memRead s (stackAt (s.sp + 1)) = .ok v ∧
    memRead s (stackAt (s.sp + 2)) = .ok lo ∧ memRead s (stackAt (s.sp + 3)) = .ok hi ∧
    exec .rti s = .next { s with
      sp := s.sp + 3, p := putFlag .u true (putFlag .b false v), pc := BitVec.ofNat 16 (hi.toNat * 256 + lo.toNat) }

/-! ## Unofficial opcodes -/

/-- R233, R234, R235: a shift or rotate of memory combined with a logical operation on A. -/
def Obligations.ShiftLogicCombinesMemoryIntoA : Prop :=
  Modifies .SLO [(0x03, .indirectX), (0x07, .zeroPage), (0x0F, .absolute), (0x13, .indirectY),
      (0x17, .zeroPageX), (0x1B, .absoluteY), (0x1F, .absoluteX)]
    (fun v _ => shiftedLeft v 0) (fun v s => s.a ||| shiftedLeft v 0)
    (fun v s => zn (s.a ||| shiftedLeft v 0) (carryLeft v s.p)) ∧
  Modifies .RLA [(0x23, .indirectX), (0x27, .zeroPage), (0x2F, .absolute), (0x33, .indirectY),
      (0x37, .zeroPageX), (0x3B, .absoluteY), (0x3F, .absoluteX)]
    (fun v s => shiftedLeft v (carry s)) (fun v s => s.a &&& shiftedLeft v (carry s))
    (fun v s => zn (s.a &&& shiftedLeft v (carry s)) (carryLeft v s.p)) ∧
  Modifies .SRE [(0x43, .indirectX), (0x47, .zeroPage), (0x4F, .absolute), (0x53, .indirectY),
      (0x57, .zeroPageX), (0x5B, .absoluteY), (0x5F, .absoluteX)]
    (fun v _ => shiftedRight v 0) (fun v s => s.a ^^^ shiftedRight v 0)
    (fun v s => zn (s.a ^^^ shiftedRight v 0) (carryRight v s.p))

/-- R236, R239, R240: RRA adds the rotated byte with the bit rotated out as carry; DCP compares A with the decremented
byte; ISB subtracts the incremented byte. -/
def Obligations.ModifyThenArithmetic : Prop :=
  Modifies .RRA [(0x63, .indirectX), (0x67, .zeroPage), (0x6F, .absolute), (0x73, .indirectY),
      (0x77, .zeroPageX), (0x7B, .absoluteY), (0x7F, .absoluteX)]
    (fun v s => shiftedRight v (carry s)) (fun v s => added s.a (shiftedRight v (carry s)) (v.getLsbD 0))
    (fun v s => addedP s.a (shiftedRight v (carry s)) (v.getLsbD 0) s.p) ∧
  Modifies .DCP [(0xC3, .indirectX), (0xC7, .zeroPage), (0xCF, .absolute), (0xD3, .indirectY),
      (0xD7, .zeroPageX), (0xDB, .absoluteY), (0xDF, .absoluteX)]
    (fun v _ => v - 1) (fun _ s => s.a) (fun v s => comparedP s.a (v - 1) s.p) ∧
  Modifies .ISB [(0xE3, .indirectX), (0xE7, .zeroPage), (0xEF, .absolute), (0xF3, .indirectY),
      (0xF7, .zeroPageX), (0xFB, .absoluteY), (0xFF, .absoluteX)]
    (fun v _ => v + 1) (fun v s => subtracted s.a (v + 1) (hasFlag s.p .c))
    (fun v s => subtractedP s.a (v + 1) (hasFlag s.p .c) s.p)

/-- R237, R238: SAX stores A and X; LAX loads both. -/
def Obligations.SaxStoresLaxLoadsBoth : Prop :=
  Stores .SAX [(0x83, .indirectX), (0x87, .zeroPage), (0x8F, .absolute), (0x97, .zeroPageY)] (fun s => s.a &&& s.x) ∧
  Reads .LAX [(0xA3, .indirectX), (0xA7, .zeroPage), (0xAF, .absolute), (0xB3, .indirectY),
      (0xB7, .zeroPageY), (0xBF, .absoluteY)]
    (fun m s => { s with a := m, x := m, p := zn m s.p })

/-- R241 to R244. -/
def Obligations.ImmediateUnofficialsFollowRules : Prop :=
  ActsOnImmediate .ANC [(0x0B, .immediate), (0x2B, .immediate)] (fun m s => { s with
    a := s.a &&& m, p := putFlag .c ((s.a &&& m).getLsbD 7) (zn (s.a &&& m) s.p) }) ∧
  ActsOnImmediate .ALR [(0x4B, .immediate)] (fun m s => { s with
    a := shiftedRight (s.a &&& m) 0, p := zn (shiftedRight (s.a &&& m) 0) (carryRight (s.a &&& m) s.p) }) ∧
  ActsOnImmediate .ARR [(0x6B, .immediate)] (fun m s =>
    let r := shiftedRight (s.a &&& m) (carry s)
    { s with a := r, p := putFlag .v (r.getLsbD 6 ^^ r.getLsbD 5) (putFlag .c (r.getLsbD 6) (zn r s.p)) }) ∧
  ActsOnImmediate .AXS [(0xCB, .immediate)] (fun m s => { s with x := (s.a &&& s.x) - m, p := comparedP (s.a &&& s.x) m s.p })

/-! ## Frames over all instructions -/

/-- R28: a flag changes only by the instructions R28 lists for it. -/
def Obligations.FlagsChangeOnlyByTheirWriters : Prop :=
  ∀ (i : Instr) (s t : State) (f : Flag), exec i s = .next t → i.mnemonic ∉ flagWriters f →
    hasFlag t.p f = hasFlag s.p f

/-- R21 to R24: a register changes only by the instructions listed for it. -/
def Obligations.RegistersChangeOnlyByTheirWriters : Prop :=
  ∀ (i : Instr) (s t : State) (r : Reg), exec i s = .next t → i.mnemonic ∉ regWriters r → t.reg r = s.reg r

/-- Every byte of memory reads as before at every address that names no cell the instruction stores to; an instruction
that stores nothing leaves all of memory. The configuration never changes (R20). -/
def Obligations.MemoryChangesOnlyWhereStored : Prop :=
  ∀ (i : Instr) (s t : State), exec i s = .next t → t.cfg = s.cfg ∧
    (∀ b, (∀ e ∈ stored i s, ¬ sameCell s.cfg e.1 b) → memRead t b = memRead s b) ∧
    (stored i s = [] → t.mem = s.mem)

/-! ## The bus -/

/-- R63, R68: a RAM cell, read through any of its addresses, gives the byte last written; every other address is left
alone. -/
def Obligations.ReadAfterWrite : Prop :=
  ∀ (s t : State) (a b x : Addr) (v : Byte), Memory.wf s.mem = true → memWrite s a v = .ok t →
    (route s.cfg a = .device .ram x → sameCell s.cfg a b → memRead t b = .ok v) ∧
    (¬ sameCell s.cfg a b → memRead t b = memRead s b)

/-- R52, R53, R50: 0x0000 to 0x1FFF is 2048 cells, each at four addresses: addresses there that agree modulo 0x0800
read alike and are written alike; and with a PPU device 0x2000 to 0x3FFF is eight. -/
def Obligations.WindowsMirror : Prop :=
  ∀ (s : State) (a b : Addr) (v : Byte),
    (a ≤ 0x1FFF → b ≤ 0x1FFF → a.toNat % 0x0800 = b.toNat % 0x0800 →
      memRead s a = memRead s b ∧ memWrite s a v = memWrite s b v) ∧
    (0x2000 ≤ a → a ≤ 0x3FFF → 0x2000 ≤ b → b ≤ 0x3FFF → a.toNat % 8 = b.toNat % 8 → s.cfg.ppuDevice ≠ none →
      memRead s a = memRead s b ∧ memWrite s a v = memWrite s b v)

/-- R52, R53, R55, R51: outside the PPU window the first region in attach order that covers the address (masked in the
RAM window) answers, handed that address: a RAM device with the cell, a null device with 0x00 and no effect. R56: where
no region covers it, a read gives 0x00 and a write changes nothing. -/
def Obligations.SoftMissReadsZero : Prop :=
  ∀ (s : State) (a : Addr) (v : Byte), (a < 0x2000 ∨ 0x3FFF < a) →
    ((∀ r ∈ s.cfg.regions, ¬ (r.first ≤ lookedUp a ∧ lookedUp a ≤ r.last)) →
      memRead s a = .ok 0x00 ∧ memWrite s a v = .ok s) ∧
    (∀ (before after : List Region) (r : Region), s.cfg.regions = before ++ r :: after →
      (∀ q ∈ before, ¬ (q.first ≤ lookedUp a ∧ lookedUp a ≤ q.last)) → r.first ≤ lookedUp a → lookedUp a ≤ r.last →
      route s.cfg a = .device r.device (lookedUp a) ∧
      (r.device = .ram → memRead s a = .ok (Memory.readCell s.mem (lookedUp a).toNat) ∧
        memWrite s a v = .ok { s with mem := Memory.writeCell s.mem (lookedUp a).toNat v }) ∧
      (r.device = .null → memRead s a = .ok 0x00 ∧ memWrite s a v = .ok s))

/-- R54, R267, R273: with no PPU device every access in 0x2000 to 0x3FFF is fatal, and carries its address; the opcode
fetch is the first access of a step, so a step from there is fatal whatever the byte. With one, the access is that
device's, at one of the eight addresses 0x2000 to 0x2007. -/
def Obligations.PpuWindowIsFatal : Prop :=
  ∀ (s : State) (a : Addr) (v : Byte), 0x2000 ≤ a → a ≤ 0x3FFF →
    (s.cfg.ppuDevice = none →
      memRead s a = .error (.ppuAccess a) ∧ memWrite s a v = .error (.ppuAccess a) ∧
      (s.pc = a → step s = .fault (.ppuAccess a))) ∧
    (∀ d, s.cfg.ppuDevice = some d → route s.cfg a = .device d (BitVec.ofNat 16 (0x2000 + a.toNat % 8)))

/-- R64, R268: a ROM device handed an address reads its program bytes, one page mirrored by `(a - 0x8000) mod 0x4000`,
two pages at `a - 0x8000`, and a write to it is fatal. No read of one is fatal: below 0x8000, where R64 states no value
for two pages, the byte is a free value (log entry 10). -/
def Obligations.RomReadsAndRefusesWrites : Prop :=
  ∀ (s : State) (addr a : Addr) (pages : RomPages) (prg : Memory) (v : Byte),
    route s.cfg addr = .device (.rom pages prg) a →
    (pages = .one → memRead s addr = .ok (Memory.readCell prg (((a.toNat : Int) - 0x8000) % 0x4000).toNat)) ∧
    (pages = .two → 0x8000 ≤ a → memRead s addr = .ok (Memory.readCell prg (a.toNat - 0x8000))) ∧
    (∃ b, memRead s addr = .ok b) ∧ memWrite s addr v = .error (.romWrite a)

/-- R57, R58, R59: a wide read is `high * 256 + low`, low byte first, its second address wrapping at 0xFFFF; a wide
write is the two byte writes, low first. -/
def Obligations.WideAccessesAreLittleEndian : Prop :=
  ∀ (s : State) (a w : Addr) (lo hi : Byte),
    (memRead s a = .ok lo → memRead s (BitVec.ofNat 16 (a.toNat + 1)) = .ok hi →
      memReadWide s a = .ok (BitVec.ofNat 16 (hi.toNat * 256 + lo.toNat))) ∧
    (∀ t, memWrite s a (BitVec.ofNat 8 w.toNat) = .ok t →
      memWriteWide s a w = memWrite t (BitVec.ofNat 16 (a.toNat + 1)) (BitVec.ofNat 8 (w.toNat / 256)))

/-- R61, R62: `attach` adds a region at the end unless an end of it lies in an attached region, which is
RegionConflict; start above end is refused. -/
def Obligations.AttachChecksEnds : Prop :=
  ∀ (rs : List Region) (r : Region),
    (r.last < r.first → attach rs r = .refused .invertedRegion) ∧
    (r.first ≤ r.last →
      (∃ q ∈ rs, (q.first ≤ r.first ∧ r.first ≤ q.last) ∨ (q.first ≤ r.last ∧ r.last ≤ q.last)) →
      attach rs r = .fault .regionConflict) ∧
    (r.first ≤ r.last →
      (∀ q ∈ rs, ¬ ((q.first ≤ r.first ∧ r.first ≤ q.last) ∨ (q.first ≤ r.last ∧ r.last ≤ q.last))) →
      attach rs r = .next (rs ++ [r]))

/-! ## Reset and load -/

/-- R291, R292, R293: `reset()` gives every register its value, loads PC from 0xFFFC, and writes no memory, in every
state and configuration: the vector lies outside the PPU window, where no read is fatal. -/
def Obligations.ResetLoadsRegistersAndVector : Prop :=
  ∀ s : State, ∃ lo hi, memRead s 0xFFFC = .ok lo ∧ memRead s 0xFFFD = .ok hi ∧
    resetCpu s = .next { s with
      pc := BitVec.ofNat 16 (hi.toNat * 256 + lo.toNat), a := 0x00, x := 0x00, y := 0x00, sp := 0xFD,
      p := s.cfg.pReset }

/-- The reset state is what `reset()` gives after construction (R290, R291) in the model's default configuration with
nothing in memory: A, X, Y zero, SP 0xFD, P 0x14. The configuration and the empty memory are the model's choice (log
entries 2, 3, 4), and so is PC = 0x0000, which follows from them. -/
def Obligations.ResetStateIsResetOfConstructed : Prop :=
  resetCpu (construct Config.default []) = .next State.reset ∧
    State.reset.a = 0x00 ∧ State.reset.x = 0x00 ∧ State.reset.y = 0x00 ∧ State.reset.sp = 0xFD ∧ State.reset.p = 0x14

/-- R294: after the load contract on a machine with RAM everywhere, a program of at most 0x7FFC bytes stands at 0x8000,
the vector holds 0x8000, `reset()` has run, and memory below 0x8000 is as before; a longer program is refused. -/
def Obligations.LoaderPlacesProgram : Prop :=
  ∀ (program : List Byte) (s : State), s.cfg.regions = [fullRam] → Memory.wf s.mem = true →
    (0x7FFC < program.length → loadProgram program s = .refused .programTooLong) ∧
    (program.length ≤ 0x7FFC → ∃ t, loadProgram program s = .next t ∧
      (∀ k (h : k < program.length), memRead t (BitVec.ofNat 16 (0x8000 + k)) = .ok program[k]) ∧
      memRead t 0xFFFC = .ok 0x00 ∧ memRead t 0xFFFD = .ok 0x80 ∧ t.pc = 0x8000 ∧
      t.a = 0x00 ∧ t.x = 0x00 ∧ t.y = 0x00 ∧ t.sp = 0xFD ∧ t.p = s.cfg.pReset ∧ t.cfg = s.cfg ∧
      ∀ b : Addr, b < 0x8000 → memRead t b = memRead s b)

/-! ## The integer domain -/

/-- R6 to R9: a construction reduces any integer into range by a multiple of `MAX - MIN + 1`, wrapping operations reduce
the exact result, checked operations give the exact result when it is in range and Overflow otherwise, division floors,
and negation is the wrapped negation. -/
def Obligations.IntegerDomainWrapsAndChecks : Prop :=
  ∀ (f : IntFamily) (a b : Int),
    f.min ≤ f.wrap a ∧ f.wrap a ≤ f.max ∧ (f.max - f.min + 1) ∣ (a - f.wrap a) ∧
    ((wrap8 a).toNat : Int) = a % 256 ∧ ((wrap16 a).toNat : Int) = a % 65536 ∧
    f.wrappingAdd a b = f.wrap (a + b) ∧ f.wrappingSub a b = f.wrap (a - b) ∧
    (∀ r n, (r, n) ∈ [(f.checkedAdd a b, a + b), (f.checkedSub a b, a - b), (f.checkedMul a b, a * b)] ∨
        (b ≠ 0 ∧ (r, n) = (f.checkedDiv a b, Int.fdiv a b)) →
      (f.min ≤ n ∧ n ≤ f.max → r = .next n) ∧ (¬ (f.min ≤ n ∧ n ≤ f.max) → r = .fault .overflow)) ∧
    (-128 ≤ a → a ≤ 127 → negI8 a = IntFamily.i8.wrap (-a)) ∧
    (-32768 ≤ a → a ≤ 32767 → negI16 a = IntFamily.i16.wrap (-a))

/-! ## Invariants -/

/-- Every step keeps the memory canonical and its listed cells among those a device can be handed: 0x0000 to 0x07FF,
0x2000 to 0x2007, 0x4000 to 0xFFFF (R52, R54, R63). -/
def Obligations.StepKeepsMemoryInvariant : Prop :=
  ∀ s t : State, MemoryInv s → step s = .next t → MemoryInv t

/-- Every step keeps exactly one of the live bits BREAK and BREAK2 set (R28, R29): no instruction changes them but PLP
and RTI, which force BREAK clear and BREAK2 set. A claim about the bits the model stores for bits 4 and 5 (log entry
23), which R29 says no claim about a program should depend on. -/
def Obligations.StepKeepsLiveBits : Prop :=
  ∀ s t : State, LiveBitsInv s → step s = .next t → LiveBitsInv t

/-- The reset state has both invariants. Its memory lists nothing by log entry 3, its P is the default of P_RESET (log
entry 5), and the second invariant is about the model's stored bits 4 and 5 (log entry 23). -/
def Obligations.ResetHasInvariants : Prop := MemoryInv State.reset ∧ LiveBitsInv State.reset

/-- R29: no step's result depends on the live BREAK and BREAK2: from two states that differ in them alone, both steps
are fatal in the same way, or both go on to states that differ in them alone. -/
def Obligations.LiveBitsAreUnobservable : Prop :=
  ∀ s s' : State, SameButLiveBits s s' →
    (∀ t, step s = .next t → ∃ t', step s' = .next t' ∧ SameButLiveBits t t') ∧
    (∀ f, step s = .fault f → step s' = .fault f)

/-- R70, R298: a store is seen by the very next fetch: when an instruction stores a byte to a RAM cell, and that cell is
the one its successor's opcode byte is read from, the opcode byte is the byte stored, and the next fetch gives the
instruction of the record that `OPTABLE` gives that byte, or finds no entry. -/
def Obligations.StoreIsSeenByNextFetch : Prop :=
  ∀ (i : Instr) (s t : State) (a x : Addr) (v : Byte), Memory.wf s.mem = true → exec i s = .next t →
    (a, v) ∈ stored i s → route s.cfg a = .device .ram x → sameCell s.cfg a t.pc →
    memRead t t.pc = .ok v ∧ (tableEntry s.cfg v = none → step t = .fault (.unhandledOpcode v t.pc)) ∧
    ∀ j r, tableByte s.cfg v = some r → fetch t = .ok j → j.opcode = r
end

