-- ==== Sys2Proof/Laws/Memory.lean ====
section
/-!
SUPPORT. The laws of memory contents: what a cell reads as after a write, and the canonical form, which every write
keeps and which makes equal contents equal lists.
-/

namespace Sys2Proof.Memory

@[simp] theorem readCell_nil (j : Nat) : readCell [] j = unlisted := rfl

theorem readCell_cons (k : Nat) (v : Byte) (m : Memory) (j : Nat) :
    readCell ((k, v) :: m) j = if k = j then v else readCell m j := rfl

/-- Below the first key of a canonical list everything is unlisted. -/
theorem readCell_below {lo hi : Nat} {m : Memory} (h : wfFrom lo hi m = true) {j : Nat} (hj : j < lo) :
    readCell m j = unlisted := by
  induction m generalizing lo with
  | nil => rfl
  | cons c m ih =>
    obtain ⟨k, v⟩ := c
    simp only [wfFrom, Bool.and_eq_true, decide_eq_true_eq] at h
    have hk : k ≠ j := by omega
    rw [readCell_cons, if_neg hk]
    exact ih h.2 (by omega)

theorem wfFrom_mono {lo lo' hi : Nat} {m : Memory} (hlo : lo' ≤ lo) (h : wfFrom lo hi m = true) :
    wfFrom lo' hi m = true := by
  cases m with
  | nil => rfl
  | cons c m =>
    obtain ⟨k, v⟩ := c
    simp only [wfFrom, Bool.and_eq_true, decide_eq_true_eq] at h ⊢
    exact ⟨⟨⟨by omega, h.1.1.2⟩, h.1.2⟩, h.2⟩

theorem wfFrom_consCell {lo hi j : Nat} {w : Byte} {m : Memory} (hlo : lo ≤ j) (hhi : j < hi)
    (h : wfFrom (j + 1) hi m = true) : wfFrom lo hi (consCell j w m) = true := by
  unfold consCell
  split
  · exact wfFrom_mono (by omega) h
  · simp only [wfFrom, Bool.and_eq_true, decide_eq_true_eq, bne_iff_ne, ne_eq]
    exact ⟨⟨⟨hlo, hhi⟩, ‹_›⟩, h⟩

theorem readCell_consCell {lo hi j : Nat} {w : Byte} {m : Memory} (h : wfFrom lo hi m = true) (hj : j < lo) (i : Nat) :
    readCell (consCell j w m) i = if i = j then w else readCell m i := by
  unfold consCell
  split
  · split
    · subst_vars; exact readCell_below h hj
    · rfl
  · rw [readCell_cons]
    by_cases hij : i = j
    · simp [hij]
    · simp [hij, Ne.symm hij]

/-- A write inside the bounds keeps the canonical form. -/
theorem wfFrom_writeCell {lo hi j : Nat} {w : Byte} {m : Memory} (h : wfFrom lo hi m = true) (hlo : lo ≤ j)
    (hhi : j < hi) : wfFrom lo hi (writeCell m j w) = true := by
  induction m generalizing lo with
  | nil => exact wfFrom_consCell hlo hhi rfl
  | cons c m ih =>
    obtain ⟨k, v⟩ := c
    have h' := h
    simp only [wfFrom, Bool.and_eq_true, decide_eq_true_eq] at h'
    obtain ⟨⟨⟨hk, hkhi⟩, hv⟩, hm⟩ := h'
    simp only [writeCell]
    split
    · refine wfFrom_consCell hlo hhi ?_
      simp only [wfFrom, Bool.and_eq_true, decide_eq_true_eq]
      exact ⟨⟨⟨by omega, hkhi⟩, hv⟩, hm⟩
    · split
      · subst_vars; exact wfFrom_consCell hlo hhi hm
      · simp only [wfFrom, Bool.and_eq_true, decide_eq_true_eq]
        exact ⟨⟨⟨hk, hkhi⟩, hv⟩, ih hm (by omega)⟩

/-- Every write at an address keeps the canonical form. -/
theorem wf_writeCell {m : Memory} (h : wf m = true) {j : Nat} (hj : j < 65536) (w : Byte) :
    wf (writeCell m j w) = true :=
  wfFrom_writeCell h (Nat.zero_le _) hj

theorem readCell_writeCell_from {lo hi : Nat} {m : Memory} (h : wfFrom lo hi m = true) (j : Nat) (w : Byte) (i : Nat) :
    readCell (writeCell m j w) i = if i = j then w else readCell m i := by
  induction m generalizing lo with
  | nil => exact readCell_consCell (lo := j + 1) (hi := 0) rfl (by omega) i
  | cons c m ih =>
    obtain ⟨k, v⟩ := c
    have h' := h
    simp only [wfFrom, Bool.and_eq_true, decide_eq_true_eq] at h'
    obtain ⟨⟨⟨hk, hkhi⟩, hv⟩, hm⟩ := h'
    simp only [writeCell]
    split
    · refine readCell_consCell (lo := k) (hi := hi) ?_ ‹_› i
      simp only [wfFrom, Bool.and_eq_true, decide_eq_true_eq]
      exact ⟨⟨⟨Nat.le_refl _, hkhi⟩, hv⟩, hm⟩
    · split
      · subst_vars
        rw [readCell_consCell hm (Nat.lt_succ_self _), readCell_cons]
        by_cases hik : i = k
        · simp [hik]
        · simp [hik, Ne.symm hik]
      · rename_i hjk
        rw [readCell_cons, readCell_cons, ih hm]
        by_cases hik : k = i
        · subst hik; simp [Ne.symm hjk]
        · simp [hik]

/-- A cell read after a write: the byte written at that cell, the old byte at every other. -/
theorem readCell_writeCell {m : Memory} (h : wf m = true) (j : Nat) (w : Byte) (i : Nat) :
    readCell (writeCell m j w) i = if i = j then w else readCell m i :=
  readCell_writeCell_from h j w i

/-- The keys after a write are old keys and the one written. -/
theorem mem_writeCell {m : Memory} {j : Nat} {w : Byte} {c : Host.Cell} (h : c ∈ writeCell m j w) :
    c = (j, w) ∨ c ∈ m := by
  induction m with
  | nil =>
    simp only [writeCell, consCell] at h
    split at h <;> simp_all
  | cons d m ih =>
    obtain ⟨k, v⟩ := d
    simp only [writeCell] at h
    split at h
    · unfold consCell at h; split at h <;> simp_all
    · split at h
      · unfold consCell at h
        split at h
        · exact .inr (List.mem_cons_of_mem _ h)
        · rcases List.mem_cons.1 h with h | h
          · exact .inl h
          · exact .inr (List.mem_cons_of_mem _ h)
      · rcases List.mem_cons.1 h with h | h
        · exact .inr (h ▸ List.mem_cons_self)
        · rcases ih h with h | h
          · exact .inl h
          · exact .inr (List.mem_cons_of_mem _ h)

/-- A write leaves every other cell alone, whether or not the list is canonical. -/
theorem readCell_writeCell_other (m : Memory) {i j : Nat} (w : Byte) (hij : i ≠ j) :
    readCell (writeCell m j w) i = readCell m i := by
  have hcons : ∀ l : Memory, readCell (consCell j w l) i = readCell l i := by
    intro l; unfold consCell; split
    · rfl
    · rw [readCell_cons, if_neg (Ne.symm hij)]
  induction m with
  | nil => exact hcons []
  | cons d m ih =>
    obtain ⟨k, v⟩ := d
    simp only [writeCell]
    split
    · exact hcons _
    · split
      · subst_vars; rw [hcons, readCell_cons, if_neg (Ne.symm hij)]
      · rw [readCell_cons, readCell_cons, ih]

/-- Canonical lists that read alike are equal. -/
theorem eq_of_readCell {lo hi : Nat} {m n : Memory} (hm : wfFrom lo hi m = true) (hn : wfFrom lo hi n = true)
    (h : ∀ j, readCell m j = readCell n j) : m = n := by
  induction m generalizing n lo with
  | nil =>
    cases n with
    | nil => rfl
    | cons d n =>
      obtain ⟨k, v⟩ := d
      simp only [wfFrom, Bool.and_eq_true, bne_iff_ne, ne_eq] at hn
      have := h k
      rw [readCell_cons, if_pos rfl] at this
      exact absurd this.symm hn.1.2
  | cons c m ih =>
    obtain ⟨k, v⟩ := c
    cases n with
    | nil =>
      simp only [wfFrom, Bool.and_eq_true, bne_iff_ne, ne_eq] at hm
      have := h k
      rw [readCell_cons, if_pos rfl] at this
      exact absurd this hm.1.2
    | cons d n =>
      obtain ⟨l, w⟩ := d
      have hm' := hm
      have hn' := hn
      simp only [wfFrom, Bool.and_eq_true, decide_eq_true_eq, bne_iff_ne, ne_eq] at hm' hn'
      obtain ⟨⟨⟨_, _⟩, hv⟩, hms⟩ := hm'
      obtain ⟨⟨⟨_, _⟩, hw⟩, hns⟩ := hn'
      have hkl : k = l := by
        rcases Nat.lt_trichotomy k l with hlt | heq | hlt
        · have hb : readCell ((l, w) :: n) k = unlisted := by
            rw [readCell_cons, if_neg (by omega)]; exact readCell_below hns (by omega)
          have := h k
          rw [hb, readCell_cons, if_pos rfl] at this
          exact absurd this hv
        · exact heq
        · have hb : readCell ((k, v) :: m) l = unlisted := by
            rw [readCell_cons, if_neg (by omega)]; exact readCell_below hms (by omega)
          have := h l
          rw [hb, readCell_cons, if_pos rfl] at this
          exact absurd this.symm hw
      subst hkl
      have hvw : v = w := by
        have := h k
        rwa [readCell_cons, if_pos rfl, readCell_cons, if_pos rfl] at this
      subst hvw
      have : m = n := ih hms hns fun j => by
        by_cases hj : k = j
        · subst hj; rw [readCell_below hms (by omega), readCell_below hns (by omega)]
        · have := h j
          rwa [readCell_cons, if_neg hj, readCell_cons, if_neg hj] at this
      rw [this]

end Sys2Proof.Memory
end

