-- ==== Sys2Proof/Laws/State.lean ====
section
/-!
SUPPORT. One lemma per field per update of the state, and the reads of a register after a write of one.
-/

namespace Sys2Proof.Machine

@[simp] theorem setPc_pc (s : State) (v : Addr) : (s.setPc v).pc = v := rfl
@[simp] theorem setPc_a (s : State) (v : Addr) : (s.setPc v).a = s.a := rfl
@[simp] theorem setPc_x (s : State) (v : Addr) : (s.setPc v).x = s.x := rfl
@[simp] theorem setPc_y (s : State) (v : Addr) : (s.setPc v).y = s.y := rfl
@[simp] theorem setPc_sp (s : State) (v : Addr) : (s.setPc v).sp = s.sp := rfl
@[simp] theorem setPc_p (s : State) (v : Addr) : (s.setPc v).p = s.p := rfl
@[simp] theorem setPc_mem (s : State) (v : Addr) : (s.setPc v).mem = s.mem := rfl
@[simp] theorem setPc_cfg (s : State) (v : Addr) : (s.setPc v).cfg = s.cfg := rfl

@[simp] theorem setStatus_pc (s : State) (v : Byte) : (s.setStatus v).pc = s.pc := rfl
@[simp] theorem setStatus_a (s : State) (v : Byte) : (s.setStatus v).a = s.a := rfl
@[simp] theorem setStatus_x (s : State) (v : Byte) : (s.setStatus v).x = s.x := rfl
@[simp] theorem setStatus_y (s : State) (v : Byte) : (s.setStatus v).y = s.y := rfl
@[simp] theorem setStatus_sp (s : State) (v : Byte) : (s.setStatus v).sp = s.sp := rfl
@[simp] theorem setStatus_p (s : State) (v : Byte) : (s.setStatus v).p = v := rfl
@[simp] theorem setStatus_mem (s : State) (v : Byte) : (s.setStatus v).mem = s.mem := rfl
@[simp] theorem setStatus_cfg (s : State) (v : Byte) : (s.setStatus v).cfg = s.cfg := rfl

@[simp] theorem setZN_pc (v : Byte) (s : State) : (setZN v s).pc = s.pc := rfl
@[simp] theorem setZN_a (v : Byte) (s : State) : (setZN v s).a = s.a := rfl
@[simp] theorem setZN_x (v : Byte) (s : State) : (setZN v s).x = s.x := rfl
@[simp] theorem setZN_y (v : Byte) (s : State) : (setZN v s).y = s.y := rfl
@[simp] theorem setZN_sp (v : Byte) (s : State) : (setZN v s).sp = s.sp := rfl
@[simp] theorem setZN_p (v : Byte) (s : State) : (setZN v s).p = statusZN v s.p := rfl
@[simp] theorem setZN_mem (v : Byte) (s : State) : (setZN v s).mem = s.mem := rfl
@[simp] theorem setZN_cfg (v : Byte) (s : State) : (setZN v s).cfg = s.cfg := rfl

@[simp] theorem setCarry_pc (v : Bool) (s : State) : (setCarry v s).pc = s.pc := rfl
@[simp] theorem setCarry_a (v : Bool) (s : State) : (setCarry v s).a = s.a := rfl
@[simp] theorem setCarry_x (v : Bool) (s : State) : (setCarry v s).x = s.x := rfl
@[simp] theorem setCarry_y (v : Bool) (s : State) : (setCarry v s).y = s.y := rfl
@[simp] theorem setCarry_sp (v : Bool) (s : State) : (setCarry v s).sp = s.sp := rfl
@[simp] theorem setCarry_p (v : Bool) (s : State) : (setCarry v s).p = putFlag .c v s.p := rfl
@[simp] theorem setCarry_mem (v : Bool) (s : State) : (setCarry v s).mem = s.mem := rfl
@[simp] theorem setCarry_cfg (v : Bool) (s : State) : (setCarry v s).cfg = s.cfg := rfl

@[simp] theorem setReg_pc (s : State) (r : Reg) (v : Byte) : (s.setReg r v).pc = s.pc := by cases r <;> rfl
@[simp] theorem setReg_p (s : State) (r : Reg) (v : Byte) : (s.setReg r v).p = s.p := by cases r <;> rfl
@[simp] theorem setReg_mem (s : State) (r : Reg) (v : Byte) : (s.setReg r v).mem = s.mem := by cases r <;> rfl
@[simp] theorem setReg_cfg (s : State) (r : Reg) (v : Byte) : (s.setReg r v).cfg = s.cfg := by cases r <;> rfl

/-- A register read after a write: the value at the register written, the old value elsewhere. -/
@[simp] theorem reg_setReg (s : State) (r q : Reg) (v : Byte) :
    (s.setReg r v).reg q = if q = r then v else s.reg q := by
  cases r <;> cases q <;> rfl

@[simp] theorem reg_setPc (s : State) (q : Reg) (v : Addr) : (s.setPc v).reg q = s.reg q := by cases q <;> rfl
@[simp] theorem reg_setStatus (s : State) (q : Reg) (v : Byte) : (s.setStatus v).reg q = s.reg q := by
  cases q <;> rfl
@[simp] theorem reg_setZN (s : State) (q : Reg) (v : Byte) : (setZN v s).reg q = s.reg q := by cases q <;> rfl

end Sys2Proof.Machine
end

