-- ==== Sys2Proof/Laws/Bus.lean ====
section
/-!
SUPPORT. What a bus access can do: a read depends on the configuration and the memory alone; a write changes the memory
alone, at the one cell it is routed to.
-/

namespace Sys2Proof.Machine

/-! ### Reads -/

theorem memRead_congr {s t : State} (hc : t.cfg = s.cfg) (hm : t.mem = s.mem) (a : Addr) :
    memRead t a = memRead s a := by
  simp only [memRead, hc, hm]

theorem readPair_congr {s t : State} (hc : t.cfg = s.cfg) (hm : t.mem = s.mem) (a b : Addr) :
    readPair t a b = readPair s a b := by
  simp only [readPair, memRead_congr hc hm]

/-- A wide read that answers is two byte reads that answer. -/
theorem readPair_ok {s : State} {a b w : Addr} (h : readPair s a b = .ok w) :
    ∃ lo hi, memRead s a = .ok lo ∧ memRead s b = .ok hi ∧ w = joinBytes hi lo := by
  unfold readPair at h
  cases ha : memRead s a with
  | error f => rw [ha] at h; cases h
  | ok lo =>
    cases hb : memRead s b with
    | error f => rw [ha, hb] at h; cases h
    | ok hi => rw [ha, hb] at h; cases h; exact ⟨lo, hi, rfl, rfl, rfl⟩

/-- Two byte reads that answer make a wide read that answers. -/
theorem readPair_of_ok {s : State} {a b : Addr} {lo hi : Byte} (ha : memRead s a = .ok lo) (hb : memRead s b = .ok hi) :
    readPair s a b = .ok (joinBytes hi lo) := by
  simp only [readPair, ha, hb]; rfl

/-- The only fatal condition of a read: its address lies in the PPU window and no PPU device is there (R54). -/
theorem memRead_error {s : State} {a : Addr} {f : Fault} (h : memRead s a = .error f) :
    f = .ppuAccess a ∧ route s.cfg a = .ppuAbsent := by
  unfold memRead at h
  split at h <;> cases h
  exact ⟨rfl, ‹_›⟩

/-- The addresses that have no device because the PPU is absent are those of its window (R52, R54). -/
theorem route_ppuAbsent {cfg : Config} {a : Addr} (h : route cfg a = .ppuAbsent) :
    0x2000 ≤ a ∧ a ≤ 0x3FFF ∧ cfg.ppuDevice = none := by
  unfold route regionRoute ppuRoute at h
  repeat' split at h
  all_goals first | (cases h; done) | exact ⟨by bv_omega, ‹_›, ‹_›⟩

/-- A read outside the PPU window is never fatal: of the zero page and the stack, for two (R180, R181). -/
theorem memRead_outside {s : State} {a : Addr} (h : a < 0x2000 ∨ 0x3FFF < a) : ∃ v, memRead s a = .ok v := by
  cases hr : memRead s a with
  | ok v => exact ⟨v, rfl⟩
  | error f =>
    obtain ⟨h1, h2, -⟩ := route_ppuAbsent (memRead_error hr).2
    rcases h with h | h <;> bv_omega

/-! ### Writes -/

/-- The fatal conditions of a write: the PPU window with no PPU device (R54), or a ROM device (R64). -/
theorem memWrite_error {s : State} {a : Addr} {v : Byte} {f : Fault} (h : memWrite s a v = .error f) :
    (f = .ppuAccess a ∧ route s.cfg a = .ppuAbsent) ∨
      ∃ pages prg x, f = .romWrite x ∧ route s.cfg a = .device (.rom pages prg) x := by
  unfold memWrite at h
  split at h
  · rename_i d x hr
    cases d with
    | ram => cases h
    | rom pages prg => cases h; exact .inr ⟨pages, prg, x, rfl, hr⟩
    | null => cases h
  · cases h
  · cases h; exact .inl ⟨rfl, ‹_›⟩

/-- Everything a write can do when it answers: the memory is unchanged (a soft miss, a null device), or one RAM cell
is written. -/
theorem memWrite_cases {s t : State} {a : Addr} {v : Byte} (h : memWrite s a v = .ok t) :
    (t = s ∧ ∀ x, route s.cfg a ≠ .device .ram x) ∨
      ∃ x, route s.cfg a = .device .ram x ∧ t = { s with mem := Memory.writeCell s.mem x.toNat v } := by
  unfold memWrite at h
  split at h
  · rename_i d x hr
    cases d with
    | ram => cases h; exact .inr ⟨x, hr, rfl⟩
    | rom pages prg => cases h
    | null => cases h; exact .inl ⟨rfl, fun y hy => by rw [hr] at hy; cases hy⟩
  · rename_i hr
    cases h; exact .inl ⟨rfl, fun y hy => by rw [hr] at hy; cases hy⟩
  · cases h

/-- A write changes nothing but memory. -/
theorem memWrite_only_mem {s t : State} {a : Addr} {v : Byte} (h : memWrite s a v = .ok t) :
    t = { s with mem := t.mem } := by
  rcases memWrite_cases h with ⟨rfl, _⟩ | ⟨x, _, rfl⟩ <;> rfl

/-- The registers and the configuration after a write. -/
theorem memWrite_frame {s t : State} {a : Addr} {v : Byte} (h : memWrite s a v = .ok t) :
    t.pc = s.pc ∧ t.a = s.a ∧ t.x = s.x ∧ t.y = s.y ∧ t.sp = s.sp ∧ t.p = s.p ∧ t.cfg = s.cfg := by
  rw [memWrite_only_mem h]; exact ⟨rfl, rfl, rfl, rfl, rfl, rfl, rfl⟩

/-- A write and an update of the rest of the state do not meet. -/
theorem memWrite_congr {s s' : State} (hc : s'.cfg = s.cfg) (hm : s'.mem = s.mem) (a : Addr) (v : Byte) :
    memWrite s' a v = (memWrite s a v).map fun t => { s' with mem := t.mem } := by
  simp only [memWrite, hc, hm]
  cases route s.cfg a with
  | device d x =>
    cases d with
    | ram => rfl
    | rom pages prg => rfl
    | null => exact congrArg Except.ok (by cases s'; simp_all)
  | unmapped => exact congrArg Except.ok (by cases s'; simp_all)
  | ppuAbsent => rfl

/-- A write leaves every address that names another cell alone. -/
theorem memRead_memWrite_other {s t : State} {a b : Addr} {v : Byte} (h : memWrite s a v = .ok t)
    (hab : ¬ sameCell s.cfg a b) : memRead t b = memRead s b := by
  rcases memWrite_cases h with ⟨rfl, _⟩ | ⟨x, hx, rfl⟩
  · rfl
  · simp only [memRead]
    cases hb : route s.cfg b with
    | device d y =>
      cases d with
      | ram =>
        have hxy : y.toNat ≠ x.toNat := fun hn =>
          hab (by unfold sameCell; rw [hx, hb, BitVec.eq_of_toNat_eq hn])
        simp only [deviceRead, Memory.readCell_writeCell_other _ _ hxy]
      | rom pages prg => rfl
      | null => rfl
    | unmapped => rfl
    | ppuAbsent => rfl

/-- A RAM cell reads, through any of its addresses, as the byte last written (R63, R68). -/
theorem memRead_memWrite_same {s t : State} {a b : Addr} {v : Byte} (hw : Memory.wf s.mem = true)
    (h : memWrite s a v = .ok t) {x : Addr} (ha : route s.cfg a = .device .ram x) (hab : sameCell s.cfg a b) :
    memRead t b = .ok v := by
  rcases memWrite_cases h with ⟨_, hn⟩ | ⟨y, hy, rfl⟩
  · exact absurd ha (hn x)
  · have hxy : x = y := by rw [ha] at hy; injection hy
    subst hxy
    have hb : route s.cfg b = .device .ram x := by rw [← hab]; exact ha
    simp only [memRead, hb, deviceRead, Memory.readCell_writeCell hw, if_pos]

/-! ### Routing -/

theorem regionRoute_addr {rs : List Region} {a : Addr} {d : Device} {x : Addr}
    (h : regionRoute rs a = .device d x) : x = a := by
  unfold regionRoute at h
  split at h <;> cases h
  rfl

theorem reachableKey_iff (k : Nat) :
    reachableKey k = true ↔ k < 0x0800 ∨ (0x2000 ≤ k ∧ k < 0x2008) ∨ (0x4000 ≤ k ∧ k < 0x10000) := by
  simp only [reachableKey, Bool.or_eq_true, Bool.and_eq_true, decide_eq_true_eq, or_assoc]

/-- The RAM window's mask (R52). -/
theorem ramMask_lt (a : Addr) : (a &&& 0x07FF).toNat < 0x0800 := by
  rw [BitVec.toNat_and]
  exact Nat.lt_of_le_of_lt Nat.and_le_right (by decide)

/-- The PPU window's mask (R54): one of the eight addresses 0x2000 to 0x2007. -/
theorem ppuMask_bounds {a : Addr} (hlo : 0x2000 ≤ a.toNat) (hhi : a.toNat < 0x4000) :
    0x2000 ≤ (a &&& 0x2007).toNat ∧ (a &&& 0x2007).toNat < 0x2008 := by
  rw [BitVec.toNat_and]
  constructor
  · apply Nat.ge_two_pow_of_testBit (i := 13)
    rw [Nat.testBit_and]
    have : a.toNat / 2 ^ 13 = 1 := by omega
    have h1 : a.toNat.testBit 13 = true := by
      rw [Nat.testBit, Nat.shiftRight_eq_div_pow, this]; rfl
    rw [h1]; decide
  · exact Nat.lt_of_le_of_lt Nat.and_le_right (by decide)

/-- A device is handed reachable addresses only (R52, R54). -/
theorem route_reachable {cfg : Config} {a : Addr} {d : Device} {x : Addr} (h : route cfg a = .device d x) :
    reachableKey x.toNat = true := by
  rw [reachableKey_iff]
  unfold route at h
  split at h
  · cases regionRoute_addr h
    exact .inl (ramMask_lt a)
  · split at h
    · have hx : x = a &&& 0x2007 := by
        unfold ppuRoute at h; split at h <;> cases h; rfl
      subst hx
      exact .inr (.inl (ppuMask_bounds (by bv_omega) (by bv_omega)))
    · cases regionRoute_addr h
      exact .inr (.inr ⟨by bv_omega, a.isLt⟩)

/-- Every write keeps the memory invariant. -/
theorem memWrite_inv {s t : State} {a : Addr} {v : Byte} (h : memWrite s a v = .ok t) (hi : MemoryInv s) :
    MemoryInv t := by
  rcases memWrite_cases h with ⟨rfl, _⟩ | ⟨x, hx, rfl⟩
  · exact hi
  · refine ⟨Memory.wf_writeCell hi.canonical x.isLt v, fun c hc => ?_⟩
    rcases Memory.mem_writeCell hc with rfl | hc
    · exact route_reachable hx
    · exact hi.reachable c hc

/-! ### The operations of the host on memory -/

/-- Bytes written in a row keep the memory invariant (R294). -/
theorem writeBytes_inv {bytes : List Byte} {a : Addr} {s t : State} (h : writeBytes a bytes s = .ok t)
    (hi : MemoryInv s) : MemoryInv t := by
  induction bytes generalizing a s with
  | nil => cases h; exact hi
  | cons v rest ih =>
    unfold writeBytes at h
    cases hw : memWrite s a v with
    | error f => rw [hw] at h; cases h
    | ok u => rw [hw] at h; exact ih h (memWrite_inv hw hi)

/-- A wide write keeps the memory invariant (R58). -/
theorem memWriteWide_inv {s t : State} {a w : Addr} (h : memWriteWide s a w = .ok t) (hi : MemoryInv s) :
    MemoryInv t := by
  unfold memWriteWide at h
  cases hw : memWrite s a (lowByte w) with
  | error f => rw [hw] at h; cases h
  | ok u => rw [hw] at h; exact memWrite_inv h (memWrite_inv hw hi)

end Sys2Proof.Machine
end

