-- ==== Sys2Proof/Laws/Decode.lean ====
section
/-!
SUPPORT. The byte-order helpers undo each other; the opcode byte of an instruction determines its mnemonic and its mode
tag by the table, so a claim about them is a claim about 256 bytes; the decoder and the encoder follow the table's rows.
-/

namespace Sys2Proof

@[simp] theorem lowByte_joinBytes (hi lo : Byte) : lowByte (joinBytes hi lo) = lo := by
  apply BitVec.eq_of_toNat_eq
  have := lo.isLt; have := hi.isLt
  simp only [lowByte, joinBytes, BitVec.toNat_setWidth, BitVec.toNat_append]
  rw [← Nat.shiftLeft_add_eq_or_of_lt lo.isLt, Nat.shiftLeft_eq]
  omega

@[simp] theorem highByte_joinBytes (hi lo : Byte) : highByte (joinBytes hi lo) = hi := by
  apply BitVec.eq_of_toNat_eq
  have := lo.isLt; have := hi.isLt
  simp only [highByte, joinBytes, BitVec.toNat_setWidth, BitVec.toNat_append, BitVec.toNat_ushiftRight]
  rw [← Nat.shiftLeft_add_eq_or_of_lt lo.isLt, Nat.shiftLeft_eq, Nat.shiftRight_eq_div_pow]
  omega

@[simp] theorem joinBytes_highByte_lowByte (w : Addr) : joinBytes (highByte w) (lowByte w) = w := by
  apply BitVec.eq_of_toNat_eq
  have hw := w.isLt
  have hlo : (lowByte w).toNat = w.toNat % 256 := by simp [lowByte]
  have hhi : (highByte w).toNat = w.toNat / 256 := by
    simp only [highByte, BitVec.toNat_setWidth, BitVec.toNat_ushiftRight, Nat.shiftRight_eq_div_pow]
    omega
  simp only [joinBytes, BitVec.toNat_append]
  rw [← Nat.shiftLeft_add_eq_or_of_lt (lowByte w).isLt, Nat.shiftLeft_eq, hlo, hhi]
  omega

/-- The value of a joined word: `hi * 256 + lo` (rule R57). -/
theorem joinBytes_toNat (hi lo : Byte) : (joinBytes hi lo).toNat = hi.toNat * 256 + lo.toNat := by
  simp only [joinBytes, BitVec.toNat_append]
  rw [← Nat.shiftLeft_add_eq_or_of_lt lo.isLt, Nat.shiftLeft_eq]

/-- The mnemonic the table gives an opcode byte. -/
def tableMnemonic (op : Byte) : Mnemonic :=
  match (opRowOf op).entry with
  | some e => e.mnemonic
  | none => .unhandled

/-- The mode tag the table gives an opcode byte. -/
def tableTag (op : Byte) : ModeTag :=
  match (opRowOf op).entry with
  | some e => e.mode
  | none => .noneAddressing

theorem mnemonic_eq_table (i : Instr) : i.mnemonic = tableMnemonic i.opcode := by cases i <;> rfl

theorem operandTag_eq_table (i : Instr) : operandTag i.operand = tableTag i.opcode := by cases i <;> rfl

/-! ### Decoding by the row of the opcode byte -/

theorem decode_plain {op : Byte} {i : Instr} (h : (opRowOf op).form = .plain i) (rest : List Byte) :
    decode (op :: rest) = .ok (i, rest) := by
  simp only [decode, h]

theorem decode_byte {op : Byte} {f : Byte → Instr} (h : (opRowOf op).form = .byte f) (b : Byte) (rest : List Byte) :
    decode (op :: b :: rest) = .ok (f b, rest) := by
  simp only [decode, h]

theorem decode_word {op : Byte} {f : Addr → Instr} (h : (opRowOf op).form = .word f) (w : Addr) (rest : List Byte) :
    decode (op :: lowByte w :: highByte w :: rest) = .ok (f w, rest) := by
  simp only [decode, h, joinBytes_highByte_lowByte]

/-- The encoder gives the instructions of a row its opcode byte and their operand bytes. -/
def FormEncodes (op : Byte) : OperandForm → Prop
  | .plain i => encode i = [op]
  | .byte f => ∀ b, encode (f b) = [op, b]
  | .word f => ∀ w, encode (f w) = [op, lowByte w, highByte w]

/-- `FormEncodes` for the rows of a part of the table that starts at byte `n`. -/
def RowsEncode : Nat → List OpRow → Prop
  | _, [] => True
  | n, r :: rows => FormEncodes (BitVec.ofNat 8 n) r.form ∧ RowsEncode (n + 1) rows

theorem rowsEncode_get {n : Nat} {l : List OpRow} (h : RowsEncode n l) {k : Nat} (hk : k < l.length) (d : OpRow) :
    FormEncodes (BitVec.ofNat 8 (n + k)) (l.getD k d).form := by
  induction l generalizing n k with
  | nil => cases hk
  | cons r rows ih =>
    cases k with
    | zero => exact h.1
    | succ k =>
      have := ih h.2 (Nat.lt_of_succ_lt_succ hk)
      rwa [show n + 1 + k = n + (k + 1) by omega] at this

theorem rowsEncode_append {n : Nat} {l m : List OpRow} (hl : RowsEncode n l) (hm : RowsEncode (n + l.length) m) :
    RowsEncode n (l ++ m) := by
  induction l generalizing n with
  | nil => exact hm
  | cons r rows ih =>
    refine ⟨hl.1, ih hl.2 ?_⟩
    rwa [show n + 1 + rows.length = n + (r :: rows).length by simp only [List.length_cons]; omega]

theorem rowsEncode0 : RowsEncode 0x0 opTable0 := by
  repeat' first | exact True.intro | refine And.intro ?_ ?_ | rfl | exact fun _ => rfl
theorem rowsEncode1 : RowsEncode 0x10 opTable1 := by
  repeat' first | exact True.intro | refine And.intro ?_ ?_ | rfl | exact fun _ => rfl
theorem rowsEncode2 : RowsEncode 0x20 opTable2 := by
  repeat' first | exact True.intro | refine And.intro ?_ ?_ | rfl | exact fun _ => rfl
theorem rowsEncode3 : RowsEncode 0x30 opTable3 := by
  repeat' first | exact True.intro | refine And.intro ?_ ?_ | rfl | exact fun _ => rfl
theorem rowsEncode4 : RowsEncode 0x40 opTable4 := by
  repeat' first | exact True.intro | refine And.intro ?_ ?_ | rfl | exact fun _ => rfl
theorem rowsEncode5 : RowsEncode 0x50 opTable5 := by
  repeat' first | exact True.intro | refine And.intro ?_ ?_ | rfl | exact fun _ => rfl
theorem rowsEncode6 : RowsEncode 0x60 opTable6 := by
  repeat' first | exact True.intro | refine And.intro ?_ ?_ | rfl | exact fun _ => rfl
theorem rowsEncode7 : RowsEncode 0x70 opTable7 := by
  repeat' first | exact True.intro | refine And.intro ?_ ?_ | rfl | exact fun _ => rfl
theorem rowsEncode8 : RowsEncode 0x80 opTable8 := by
  repeat' first | exact True.intro | refine And.intro ?_ ?_ | rfl | exact fun _ => rfl
theorem rowsEncode9 : RowsEncode 0x90 opTable9 := by
  repeat' first | exact True.intro | refine And.intro ?_ ?_ | rfl | exact fun _ => rfl
theorem rowsEncodeA : RowsEncode 0xA0 opTableA := by
  repeat' first | exact True.intro | refine And.intro ?_ ?_ | rfl | exact fun _ => rfl
theorem rowsEncodeB : RowsEncode 0xB0 opTableB := by
  repeat' first | exact True.intro | refine And.intro ?_ ?_ | rfl | exact fun _ => rfl
theorem rowsEncodeC : RowsEncode 0xC0 opTableC := by
  repeat' first | exact True.intro | refine And.intro ?_ ?_ | rfl | exact fun _ => rfl
theorem rowsEncodeD : RowsEncode 0xD0 opTableD := by
  repeat' first | exact True.intro | refine And.intro ?_ ?_ | rfl | exact fun _ => rfl
theorem rowsEncodeE : RowsEncode 0xE0 opTableE := by
  repeat' first | exact True.intro | refine And.intro ?_ ?_ | rfl | exact fun _ => rfl
theorem rowsEncodeF : RowsEncode 0xF0 opTableF := by
  repeat' first | exact True.intro | refine And.intro ?_ ?_ | rfl | exact fun _ => rfl

theorem opTable0_length : opTable0.length = 16 := rfl
theorem opTable1_length : opTable1.length = 16 := rfl
theorem opTable2_length : opTable2.length = 16 := rfl
theorem opTable3_length : opTable3.length = 16 := rfl
theorem opTable4_length : opTable4.length = 16 := rfl
theorem opTable5_length : opTable5.length = 16 := rfl
theorem opTable6_length : opTable6.length = 16 := rfl
theorem opTable7_length : opTable7.length = 16 := rfl
theorem opTable8_length : opTable8.length = 16 := rfl
theorem opTable9_length : opTable9.length = 16 := rfl
theorem opTableA_length : opTableA.length = 16 := rfl
theorem opTableB_length : opTableB.length = 16 := rfl
theorem opTableC_length : opTableC.length = 16 := rfl
theorem opTableD_length : opTableD.length = 16 := rfl
theorem opTableE_length : opTableE.length = 16 := rfl
theorem opTableF_length : opTableF.length = 16 := rfl

theorem opTable_length : opTable.length = 256 := by
  simp only [opTable, List.length_append,
    opTable0_length, opTable1_length, opTable2_length, opTable3_length, opTable4_length, opTable5_length,
    opTable6_length, opTable7_length, opTable8_length, opTable9_length, opTableA_length, opTableB_length,
    opTableC_length, opTableD_length, opTableE_length, opTableF_length]

theorem rowsEncode_opTable : RowsEncode 0 opTable := by
  unfold opTable
  repeat' refine rowsEncode_append ?_ ?_
  all_goals try simp only [List.length_append,
    opTable0_length, opTable1_length, opTable2_length, opTable3_length, opTable4_length, opTable5_length,
    opTable6_length, opTable7_length, opTable8_length, opTable9_length, opTableA_length, opTableB_length,
    opTableC_length, opTableD_length, opTableE_length]
  · exact rowsEncode0
  · exact rowsEncode1
  · exact rowsEncode2
  · exact rowsEncode3
  · exact rowsEncode4
  · exact rowsEncode5
  · exact rowsEncode6
  · exact rowsEncode7
  · exact rowsEncode8
  · exact rowsEncode9
  · exact rowsEncodeA
  · exact rowsEncodeB
  · exact rowsEncodeC
  · exact rowsEncodeD
  · exact rowsEncodeE
  · exact rowsEncodeF

/-- The row of any opcode byte makes instructions the encoder gives that byte. -/
theorem opRowOf_encodes (op : Byte) : FormEncodes op (opRowOf op).form := by
  have := rowsEncode_get rowsEncode_opTable (k := op.toNat) (by rw [opTable_length]; exact op.isLt) (noEntry .jam02)
  rwa [Nat.zero_add, BitVec.ofNat_toNat, BitVec.setWidth_eq] at this

/-- The instruction made at an opcode byte has that opcode byte. -/
theorem opcode_build (op b1 b2 : Byte) : ((opRowOf op).form.build b1 b2).opcode = op := by
  have hf := opRowOf_encodes op
  unfold Instr.opcode
  cases hp : (opRowOf op).form with
  | plain i => rw [hp] at hf; simp only [OperandForm.build]; rw [show encode i = [op] from hf]; rfl
  | byte f => rw [hp] at hf; simp only [OperandForm.build]; rw [hf]; rfl
  | word f => rw [hp] at hf; simp only [OperandForm.build]; rw [hf]; rfl

/-- The well-formed instructions are those whose opcode byte has a table entry. -/
theorem hasTableEntry_eq (i : Instr) : i.hasTableEntry = (opRowOf i.opcode).entry.isSome := by
  cases i <;> rfl

/-- The bytes with no table entry are those of the mnemonic `unhandled`. -/
theorem unhandled_of_not_hasTableEntry {i : Instr} (h : i.hasTableEntry = false) : i.mnemonic = .unhandled := by
  cases i <;> first | (cases h; done) | rfl

end Sys2Proof
end

