-- ==== Sys2Proof/Laws/Exec.lean ====
section
/-!
SUPPORT. What `exec` does, by mnemonic: the mnemonic and the operand of an instruction determine its meaning (but for
the branches, JMP, JSR and the bytes with no table entry, whose arms are read one by one). And what the ends of a step,
the shapes of a handler and the fetch can do.
-/

namespace Sys2Proof.Machine

/-! ### The meaning by mnemonic -/

/-- The shared meaning of a mnemonic with an operand. -/
def operandMeaning : Mnemonic → Option (Operand → State → Result)
  | .LDA => some opLda | .LDX => some opLdx | .LDY => some opLdy | .LAX => some opLax
  | .STA => some opSta | .STX => some opStx | .STY => some opSty | .SAX => some opSax
  | .AND => some opAnd | .ORA => some opOra | .EOR => some opEor | .ADC => some opAdc | .SBC => some opSbc
  | .CMP => some opCmp | .CPX => some opCpx | .CPY => some opCpy | .BIT => some opBit
  | .INC => some opInc | .DEC => some opDec | .ASL => some opAsl | .LSR => some opLsr | .ROL => some opRol
  | .ROR => some opRor | .NOP => some opNop | .SLO => some opSlo | .RLA => some opRla | .SRE => some opSre
  | .RRA => some opRra | .DCP => some opDcp | .ISB => some opIsb | .ANC => some opAnc | .ALR => some opAlr
  | .ARR => some opArr | .AXS => some opAxs
  | _ => none

/-- The meaning of a mnemonic whose form has no operand. -/
def impliedMeaning : Mnemonic → Option (State → Result)
  | .TAX => some execTax | .TAY => some execTay | .TXA => some execTxa | .TYA => some execTya
  | .TSX => some execTsx | .TXS => some execTxs | .INX => some execInx | .INY => some execIny
  | .DEX => some execDex | .DEY => some execDey | .ASL => some execAslAcc | .LSR => some execLsrAcc
  | .ROL => some execRolAcc | .ROR => some execRorAcc | .PHA => some execPha | .PLA => some execPla
  | .PHP => some execPhp | .PLP => some execPlp | .CLC => some execClc | .SEC => some execSec
  | .CLI => some execCli | .SEI => some execSei | .CLD => some execCld | .SED => some execSed
  | .CLV => some execClv | .NOP => some execNop | .RTS => some execRts | .BRK => some execBrk
  | .RTI => some execRti
  | _ => none

theorem exec_of_operand {i : Instr} (ho : i.operand ≠ .noneAddressing) {m : Operand → State → Result}
    (hm : operandMeaning i.mnemonic = some m) (s : State) : exec i s = m i.operand s := by
  cases i <;> first | exact absurd rfl ho | (cases hm; rfl)

theorem exec_of_implied {i : Instr} (ho : i.operand = .noneAddressing) {m : State → Result}
    (hm : impliedMeaning i.mnemonic = some m) (s : State) : exec i s = m s := by
  cases i <;> first | (cases ho; done) | (cases hm; done) | (cases hm; rfl)

/-- An instruction with a table entry that has neither is a branch, a JMP or a JSR. -/
theorem other_instr {i : Instr} (hw : i.mnemonic ≠ .unhandled)
    (ho : i.operand = .noneAddressing) (hm : impliedMeaning i.mnemonic = none) :
    (∃ off, i = .bcc off ∨ i = .bcs off ∨ i = .beq off ∨ i = .bne off ∨ i = .bmi off ∨ i = .bpl off ∨ i = .bvc off ∨
      i = .bvs off) ∨ (∃ w, i = .jmpAbs w ∨ i = .jmpInd w ∨ i = .jsr w) := by
  cases i <;> first
    | (cases ho; done)
    | (cases hm; done)
    | exact absurd rfl hw
    | (rename_i off; exact .inl ⟨off, by simp⟩)
    | (rename_i w; exact .inr ⟨w, by simp⟩)

/-- An instruction with an operand has a shared meaning. -/
theorem operandMeaning_isSome {i : Instr} (ho : i.operand ≠ .noneAddressing) : (operandMeaning i.mnemonic).isSome := by
  cases i <;> first | rfl | exact absurd rfl ho

/-- A byte with no table entry is fatal, whatever the state (R246). -/
theorem exec_unhandled {i : Instr} (h : i.mnemonic = .unhandled) (s : State) :
    exec i s = .fault (.unhandledOpcode i.opcode s.pc) := by
  cases i <;> first | rfl | cases h

/-- The length of an instruction with an operand is its operand's. -/
theorem length_of_operand {i : Instr} (ho : i.operand ≠ .noneAddressing) :
    BitVec.ofNat 16 i.length = operandSize i.operand := by
  cases i <;> first | rfl | exact absurd rfl ho

/-- Every form with no operand, but the branches, JMP and JSR, is one byte long. -/
theorem length_of_implied {i : Instr} (ho : i.operand = .noneAddressing) (hm : (impliedMeaning i.mnemonic).isSome) :
    i.length = 1 := by
  cases i <;> first | rfl | (cases ho; done) | cases hm

/-! ### The ends of a step -/

/-- A step that ends by `finish` with a next state ends with the handler's state, `PC` set by rule R84. -/
theorem finish_next {s t : State} {len : Addr} {r : Except Fault (State × Option Addr)}
    (h : finish s len r = .next t) : ∃ u assigned, r = .ok (u, assigned) ∧ t = u.setPc (pcAfter s len assigned) := by
  cases r with
  | error f => cases h
  | ok v => obtain ⟨u, assigned⟩ := v; cases h; exact ⟨u, assigned, rfl, rfl⟩

theorem advance_next {s t : State} {len : Addr} {r : Except Fault State} (h : advance s len r = .next t) :
    ∃ u, r = .ok u ∧ t = u.setPc (s.pc + len) := by
  cases r with
  | error f => cases h
  | ok u => cases h; exact ⟨u, rfl, rfl⟩

@[simp] theorem advance_ok (s : State) (len : Addr) (u : State) :
    advance s len (.ok u) = .next (u.setPc (s.pc + len)) := rfl

@[simp] theorem advance_error (s : State) (len : Addr) (f : Fault) : advance s len (.error f) = .fault f := rfl

theorem finish_never_refuses (s : State) (len : Addr) (r : Except Fault (State × Option Addr)) (q : Refusal) :
    finish s len r ≠ .refused q := by
  cases r <;> exact nofun

/-! ### The shapes of a handler -/

theorem withOperand_ok {o : Operand} {s : State} {v : Byte} (h : operandValue o s = .ok v) (f : Byte → State → State) :
    withOperand o f s = .next ((f v s).setPc (s.pc + operandSize o)) := by
  simp only [withOperand, h]; rfl

theorem withOperand_error {o : Operand} {s : State} {e : Fault} (h : operandValue o s = .error e)
    (f : Byte → State → State) : withOperand o f s = .fault e := by
  simp only [withOperand, h]; rfl

/-- Everything a reading instruction can do when it answers. -/
theorem withOperand_next {o : Operand} {f : Byte → State → State} {s t : State} (h : withOperand o f s = .next t) :
    ∃ v, operandValue o s = .ok v ∧ t = (f v s).setPc (s.pc + operandSize o) := by
  cases hv : operandValue o s with
  | error e => rw [withOperand_error hv] at h; cases h
  | ok v => rw [withOperand_ok hv] at h; cases h; exact ⟨v, rfl, rfl⟩

theorem storeAt_ok {o : Operand} {s t : State} {a : Addr} {v : Byte} (ha : effectiveAddress o s = .ok a)
    (hw : memWrite s a v = .ok t) : storeAt o v s = .next (t.setPc (s.pc + operandSize o)) := by
  simp only [storeAt, ha]
  show advance s (operandSize o) (memWrite s a v) = _
  rw [hw]; rfl

/-- Everything a store can do when it answers. -/
theorem storeAt_next {o : Operand} {v : Byte} {s t : State} (h : storeAt o v s = .next t) :
    ∃ a u, effectiveAddress o s = .ok a ∧ memWrite s a v = .ok u ∧ t = u.setPc (s.pc + operandSize o) := by
  obtain ⟨u, hu, ht⟩ := advance_next h
  cases ha : effectiveAddress o s with
  | error f => rw [ha] at hu; cases hu
  | ok a => rw [ha] at hu; exact ⟨a, u, rfl, hu, ht⟩

theorem readModifyWrite_ok {o : Operand} {modify : Byte → State → Byte × State} {after : Byte → State → State}
    {s u : State} {a : Addr} {v : Byte} (ha : effectiveAddress o s = .ok a) (hv : memRead s a = .ok v)
    (hw : memWrite (modify v s).2 a (modify v s).1 = .ok u) :
    readModifyWrite o modify after s = .next ((after (modify v s).1 u).setPc (s.pc + operandSize o)) := by
  simp only [readModifyWrite, ha, hv, bind, Except.bind]
  rw [hw]; rfl

/-- Everything a read-modify-write instruction can do when it answers. -/
theorem readModifyWrite_next {o : Operand} {modify : Byte → State → Byte × State} {after : Byte → State → State}
    {s t : State} (h : readModifyWrite o modify after s = .next t) :
    ∃ a v u, effectiveAddress o s = .ok a ∧ memRead s a = .ok v ∧
      memWrite (modify v s).2 a (modify v s).1 = .ok u ∧
      t = (after (modify v s).1 u).setPc (s.pc + operandSize o) := by
  obtain ⟨u, hu, ht⟩ := advance_next h
  cases ha : effectiveAddress o s with
  | error f => rw [ha] at hu; cases hu
  | ok a =>
    cases hv : memRead s a with
    | error f => rw [ha] at hu; simp only [bind, Except.bind, hv] at hu; cases hu
    | ok v =>
      cases hw : memWrite (modify v s).2 a (modify v s).1 with
      | error f => rw [ha] at hu; simp only [bind, Except.bind, hv, hw] at hu; cases hu
      | ok w =>
        rw [ha] at hu
        simp only [bind, Except.bind, hv, hw, pure, Except.pure] at hu
        cases hu
        exact ⟨a, v, w, rfl, hv, hw, ht⟩

/-! ### The stack -/

/-- Everything a push can do when it answers. -/
theorem push8_ok {v : Byte} {s t : State} (h : push8 v s = .ok t) :
    ∃ u, memWrite s (stackAddr s.sp) v = .ok u ∧ t = { u with sp := s.sp - 1 } := by
  unfold push8 at h
  cases hw : memWrite s (stackAddr s.sp) v with
  | error f => rw [hw] at h; cases h
  | ok u => rw [hw] at h; cases h; exact ⟨u, rfl, rfl⟩

/-- Everything a pull can do when it answers. -/
theorem pull8_ok {s t : State} {v : Byte} (h : pull8 s = .ok (v, t)) :
    memRead s (stackAddr (s.sp + 1)) = .ok v ∧ t = { s with sp := s.sp + 1 } := by
  unfold pull8 at h
  cases hr : memRead s (stackAddr (s.sp + 1)) with
  | error f => rw [hr] at h; cases h
  | ok w => rw [hr] at h; cases h; exact ⟨rfl, rfl⟩

/-- A word push that answers is two byte pushes that answer, the high byte first. -/
theorem push16_ok {w : Addr} {s t : State} (h : push16 w s = .ok t) :
    ∃ u, push8 (highByte w) s = .ok u ∧ push8 (lowByte w) u = .ok t := by
  unfold push16 at h
  cases h1 : push8 (highByte w) s with
  | error f => rw [h1] at h; cases h
  | ok u => rw [h1] at h; exact ⟨u, rfl, h⟩

/-- A word pull that answers is two byte pulls that answer, the low byte first. -/
theorem pull16_ok {s t : State} {w : Addr} (h : pull16 s = .ok (w, t)) :
    ∃ lo hi u, pull8 s = .ok (lo, u) ∧ pull8 u = .ok (hi, t) ∧ w = joinBytes hi lo := by
  unfold pull16 at h
  cases h1 : pull8 s with
  | error f => rw [h1] at h; cases h
  | ok p =>
    obtain ⟨lo, u⟩ := p
    cases h2 : pull8 u with
    | error f => rw [h1] at h; simp only [bind, Except.bind, h2] at h; cases h
    | ok q =>
      obtain ⟨hi, v⟩ := q
      rw [h1] at h
      simp only [bind, Except.bind, h2, pure, Except.pure] at h
      cases h
      exact ⟨lo, hi, u, rfl, h2, rfl⟩

/-- The trap-like entry that answers has pushed one byte (R274). -/
theorem trapEntry_ok {s t : State} (h : trapEntry s = .ok t) :
    ∃ u, memWrite s (stackAddr s.sp) (pushedStatus s.p) = .ok u ∧ t = { u with sp := s.sp - 1 } := push8_ok h

/-- Everything the trap return can do when it answers (R275): three bytes are read, P, SP and PC are assigned. -/
theorem trapReturn_ok {s t : State} {assigned : Option Addr} (h : trapReturn s = .ok (t, assigned)) :
    ∃ v lo hi, memRead s (stackAddr (s.sp + 1)) = .ok v ∧ memRead s (stackAddr (s.sp + 1 + 1)) = .ok lo ∧
      memRead s (stackAddr (s.sp + 1 + 1 + 1)) = .ok hi ∧ assigned = some (joinBytes hi lo) ∧
      t = { s with p := restoredStatus v, sp := s.sp + 1 + 1 + 1 } := by
  unfold trapReturn at h
  cases hv : pull8 s with
  | error e => rw [hv] at h; cases h
  | ok q =>
    obtain ⟨v, u⟩ := q
    cases hw : pull16 (u.setStatus (restoredStatus v)) with
    | error e => rw [hv] at h; simp only [bind, Except.bind, hw] at h; cases h
    | ok q =>
      obtain ⟨w, u2⟩ := q
      rw [hv] at h
      simp only [bind, Except.bind, hw, pure, Except.pure] at h
      cases h
      obtain ⟨lo, hi, u1, h1, h2, rfl⟩ := pull16_ok hw
      obtain ⟨r0, rfl⟩ := pull8_ok hv
      obtain ⟨r1, rfl⟩ := pull8_ok h1
      obtain ⟨r2, rfl⟩ := pull8_ok h2
      exact ⟨v, lo, hi, r0, r1, r2, rfl, rfl⟩

/-! ### Control transfers -/

/-- Everything a branch can do: it moves `PC` and nothing else (R200). -/
theorem branch_next {c : Cond} {off : Byte} {s t : State} (h : branch c off s = .next t) :
    t = s.setPc (pcAfter s 2 (if c.holds s.p then some (branchTarget s.pc off) else none)) := by
  cases h; rfl

/-- Everything JSR can do when it answers (R211): two bytes written, SP moved, the target read afterwards. -/
theorem call_ok {s t : State} {assigned : Option Addr} (h : call s = .ok (t, assigned)) :
    ∃ u w target, push8 (highByte (s.pc + 2)) s = .ok u ∧ push8 (lowByte (s.pc + 2)) u = .ok w ∧
      memReadWide w (s.pc + 1) = .ok target ∧ t = w ∧ assigned = some target := by
  unfold call at h
  cases hp : push16 (s.pc + 2) s with
  | error e => rw [hp] at h; cases h
  | ok w =>
    cases hr : memReadWide w (s.pc + 1) with
    | error e => rw [hp] at h; simp only [bind, Except.bind, hr] at h; cases h
    | ok target =>
      rw [hp] at h
      simp only [bind, Except.bind, hr, pure, Except.pure] at h
      cases h
      obtain ⟨u, h1, h2⟩ := push16_ok hp
      exact ⟨u, _, target, h1, h2, hr, rfl, rfl⟩

/-! ### The fetch -/

/-- With no differences OPTABLE is that of spec/opcode_table.json. -/
@[simp] theorem tableByte_nil {cfg : Config} (h : cfg.opTable = []) (op : Byte) : tableByte cfg op = some op := by
  simp only [tableByte, h, List.find?]

/-- The first difference counts for its own byte. -/
theorem tableByte_cons {cfg : Config} {q : Byte} {e : Option Byte} {rest : List (Byte × Option Byte)}
    (h : cfg.opTable = (q, e) :: rest) (op : Byte) :
    tableByte cfg op = if op = q then e else tableByte { cfg with opTable := rest } op := by
  simp only [tableByte, h, List.find?]
  by_cases hq : op = q
  · subst hq; simp
  · rw [show (q == op) = false from by simpa using fun h => hq h.symm, if_neg hq]

/-- The instruction at an opcode byte with an entry in OPTABLE. -/
theorem instrAt_of_entry {s : State} {op r : Byte} (hr : tableByte s.cfg op = some r)
    (he : (opRowOf r).entry.isSome) :
    instrAt s op = .ok ((opRowOf r).form.build (peek s (s.pc + 1)) (peek s (s.pc + 2))) := by
  obtain ⟨e, he⟩ := Option.isSome_iff_exists.1 he
  simp only [instrAt, tableEntry, hr, Option.bind_some, he]

/-- A byte with no entry in OPTABLE is fatal (R86). -/
theorem instrAt_of_none {s : State} {op : Byte} (h : tableEntry s.cfg op = none) :
    instrAt s op = .error (.unhandledOpcode op s.pc) := by
  unfold instrAt
  split
  · rename_i h2; rw [h] at h2; cases h2
  · rfl

/-- Everything a fetch can do when it answers: the opcode byte is read, OPTABLE gives it a record, the instruction is
that record's, and the operand bytes its handler reads first can be read. -/
theorem fetch_ok {s : State} {i : Instr} (h : fetch s = .ok i) :
    ∃ op r, memRead s s.pc = .ok op ∧ tableByte s.cfg op = some r ∧ (opRowOf r).entry.isSome ∧
      i = (opRowOf r).form.build (peek s (s.pc + 1)) (peek s (s.pc + 2)) ∧
      readOperandBytes s (operandReads i s.p) = .ok () := by
  unfold fetch at h
  cases ho : memRead s s.pc with
  | error f => rw [ho] at h; cases h
  | ok op =>
    rw [ho] at h
    cases he : tableEntry s.cfg op with
    | none => simp only [bind, Except.bind, instrAt_of_none he] at h; cases h
    | some e =>
      cases hb : tableByte s.cfg op with
      | none => simp only [tableEntry, hb, Option.bind_none] at he; cases he
      | some r =>
        simp only [tableEntry, hb, Option.bind_some] at he
        have hs : (opRowOf r).entry.isSome := by rw [he]; rfl
        simp only [bind, Except.bind, instrAt_of_entry hb hs] at h
        split at h
        · cases h
        · cases h; exact ⟨op, r, rfl, hb, hs, rfl, ‹_›⟩

/-! ### The step -/

theorem step_of_fetch {s : State} {i : Instr} (h : fetch s = .ok i) : step s = exec i s := by
  simp only [step, h]

/-- Everything a step can do: the fetch meets a fatal condition, or the fetched instruction runs. -/
theorem step_cases (s : State) :
    (∃ f, fetch s = .error f ∧ step s = .fault f) ∨ (∃ i, fetch s = .ok i ∧ step s = exec i s) := by
  unfold step
  cases h : fetch s with
  | error f => exact .inl ⟨f, rfl, rfl⟩
  | ok i => exact .inr ⟨i, rfl, rfl⟩

end Sys2Proof.Machine
end

