-- ==== Sys2Proof/Laws/Flags.lean ====
section
/-!
SUPPORT. What each operation on the status register does to each flag, and the identity behind SBC.
-/

namespace Sys2Proof.Machine

/-- A flag after `P.f <- v`: `v` at `f`, the old value at every other flag. -/
theorem hasFlag_putFlag (f g : Flag) (v : Bool) (p : Byte) :
    hasFlag (putFlag f v p) g = if g = f then v else hasFlag p g := by
  cases v <;> cases f <;> cases g <;>
    simp [putFlag, setFlag, unsetFlag, hasFlag, Flag.mask, Flag.bit]

theorem hasFlag_setFlag (f g : Flag) (p : Byte) : hasFlag (setFlag f p) g = if g = f then true else hasFlag p g :=
  hasFlag_putFlag f g true p

theorem hasFlag_unsetFlag (f g : Flag) (p : Byte) :
    hasFlag (unsetFlag f p) g = if g = f then false else hasFlag p g :=
  hasFlag_putFlag f g false p

theorem hasFlag_toggleFlag (f g : Flag) (p : Byte) :
    hasFlag (toggleFlag f p) g = if g = f then !hasFlag p g else hasFlag p g := by
  cases f <;> cases g <;> simp [toggleFlag, hasFlag, Flag.mask, Flag.bit]

/-- `setZN` writes Z and N and no other flag. -/
theorem hasFlag_statusZN (v p : Byte) (g : Flag) :
    hasFlag (statusZN v p) g = if g = .n then v.getLsbD 7 else if g = .z then v == 0x00 else hasFlag p g := by
  simp only [statusZN, hasFlag_putFlag]

/-- The pushed byte has BREAK and BREAK2 set and the other flags of `P`. -/
theorem hasFlag_pushedStatus (p : Byte) (g : Flag) :
    hasFlag (pushedStatus p) g = if g = .b ∨ g = .u then true else hasFlag p g := by
  cases g <;> simp [pushedStatus, hasFlag, Flag.bit]

/-- The restored status has BREAK clear, BREAK2 set and the other flags of the pulled byte. -/
theorem hasFlag_restoredStatus (v : Byte) (g : Flag) :
    hasFlag (restoredStatus v) g = if g = .b then false else if g = .u then true else hasFlag v g := by
  cases g <;> simp [restoredStatus, hasFlag, Flag.bit]

/-- Two status bytes with the same eight flags are equal. -/
theorem status_ext {p q : Byte} (h : ∀ f, hasFlag p f = hasFlag q f) : p = q := by
  apply BitVec.eq_of_getLsbD_eq
  intro i hi
  have hall : ∀ j, j < 8 → p.getLsbD j = q.getLsbD j := by
    intro j hj
    match j, hj with
    | 0, _ => exact h .c
    | 1, _ => exact h .z
    | 2, _ => exact h .i
    | 3, _ => exact h .d
    | 4, _ => exact h .b
    | 5, _ => exact h .u
    | 6, _ => exact h .v
    | 7, _ => exact h .n
  exact hall i hi

/-- The operand SBC gives the adder is the complement of its operand (R146). -/
theorem sbcOperand_eq_not (m : Byte) : sbcOperand m = ~~~m := by
  revert m; decide

/-- Everything BIT does to the flags (R151). -/
theorem hasFlag_bitTest (m : Byte) (s : State) (g : Flag) :
    hasFlag (bitTest m s).p g = if g = .z then s.a &&& m == 0x00
      else if g = .n then hasFlag s.p .n || (m &&& s.cfg.bitNMask != 0x00)
      else if g = .v then hasFlag s.p .v || (m &&& 0x40 != 0x00) else hasFlag s.p g := by
  unfold bitTest
  cases h1 : (m &&& s.cfg.bitNMask != 0x00) <;> cases h2 : (m &&& 0x40 != 0x00) <;> cases g <;>
    simp [*, hasFlag_setFlag, hasFlag_putFlag]

/-- Everything a comparison does to the flags (R147). -/
theorem hasFlag_compareWith (reg m : Byte) (s : State) (g : Flag) :
    hasFlag (compareWith reg m s).p g = if g = .n then (reg - m).getLsbD 7 else if g = .z then reg - m == 0x00
      else if g = .c then decide (m.toNat ≤ reg.toNat) else hasFlag s.p g := by
  simp only [compareWith, setZN, setCarry, hasFlag_statusZN, hasFlag_putFlag]

/-- Everything the adder does to the flags (R144). -/
theorem hasFlag_adcCore (m : Byte) (s : State) (g : Flag) :
    hasFlag (adcCore m s).p g =
      if g = .n then (adcCore m s).a.getLsbD 7 else if g = .z then (adcCore m s).a == 0x00
      else if g = .v then adderOverflow s.a m (adcCore m s).a
      else if g = .c then decide (adderSum s.a m (hasFlag s.p .c) > 0xFF) else hasFlag s.p g := by
  simp only [adcCore, setZN, hasFlag_statusZN, hasFlag_putFlag]

/-- The adder writes A and P and nothing else. -/
theorem adcCore_frame (m : Byte) (s : State) :
    adcCore m s = { s with a := (adcCore m s).a, p := (adcCore m s).p } := rfl

/-- Restoring a status forces two bits of it (R29, R183). -/
theorem restoredStatus_eq_putFlag (v : Byte) : restoredStatus v = putFlag .u true (putFlag .b false v) := by
  revert v; decide

end Sys2Proof.Machine
end

