-- ==== Sys2Proof/Laws/PerInstr.lean ====
section
/-!
SUPPORT. Laws stated per instruction. `EncodedLength`: an instruction's encoding has the opcode byte and as many operand
bytes as the decoder takes for that byte (rules R80, R82).
-/

namespace Sys2Proof.Laws.EncodedLength

/-- The encoding of the instruction is as long as what the decoder takes. -/
def Statement (i : Instr) : Prop := i.length = 1 + (opRowOf i.opcode).form.count

theorem brk : Statement .brk := rfl
theorem oraIzx (b : Byte) : Statement (.oraIzx b) := rfl
theorem jam02 : Statement .jam02 := rfl
theorem sloIzx (b : Byte) : Statement (.sloIzx b) := rfl
theorem nopZp04 (b : Byte) : Statement (.nopZp04 b) := rfl
theorem oraZp (b : Byte) : Statement (.oraZp b) := rfl
theorem aslZp (b : Byte) : Statement (.aslZp b) := rfl
theorem sloZp (b : Byte) : Statement (.sloZp b) := rfl
theorem php : Statement .php := rfl
theorem oraImm (b : Byte) : Statement (.oraImm b) := rfl
theorem aslAcc : Statement .aslAcc := rfl
theorem ancImm0B (b : Byte) : Statement (.ancImm0B b) := rfl
theorem nopAbs (w : Addr) : Statement (.nopAbs w) := rfl
theorem oraAbs (w : Addr) : Statement (.oraAbs w) := rfl
theorem aslAbs (w : Addr) : Statement (.aslAbs w) := rfl
theorem sloAbs (w : Addr) : Statement (.sloAbs w) := rfl
theorem bpl (b : Byte) : Statement (.bpl b) := rfl
theorem oraIzy (b : Byte) : Statement (.oraIzy b) := rfl
theorem jam12 : Statement .jam12 := rfl
theorem sloIzy (b : Byte) : Statement (.sloIzy b) := rfl
theorem nopZpx14 (b : Byte) : Statement (.nopZpx14 b) := rfl
theorem oraZpx (b : Byte) : Statement (.oraZpx b) := rfl
theorem aslZpx (b : Byte) : Statement (.aslZpx b) := rfl
theorem sloZpx (b : Byte) : Statement (.sloZpx b) := rfl
theorem clc : Statement .clc := rfl
theorem oraAby (w : Addr) : Statement (.oraAby w) := rfl
theorem nop1A : Statement .nop1A := rfl
theorem sloAby (w : Addr) : Statement (.sloAby w) := rfl
theorem nopAbx1C (w : Addr) : Statement (.nopAbx1C w) := rfl
theorem oraAbx (w : Addr) : Statement (.oraAbx w) := rfl
theorem aslAbx (w : Addr) : Statement (.aslAbx w) := rfl
theorem sloAbx (w : Addr) : Statement (.sloAbx w) := rfl
theorem jsr (w : Addr) : Statement (.jsr w) := rfl
theorem andIzx (b : Byte) : Statement (.andIzx b) := rfl
theorem jam22 : Statement .jam22 := rfl
theorem rlaIzx (b : Byte) : Statement (.rlaIzx b) := rfl
theorem bitZp (b : Byte) : Statement (.bitZp b) := rfl
theorem andZp (b : Byte) : Statement (.andZp b) := rfl
theorem rolZp (b : Byte) : Statement (.rolZp b) := rfl
theorem rlaZp (b : Byte) : Statement (.rlaZp b) := rfl
theorem plp : Statement .plp := rfl
theorem andImm (b : Byte) : Statement (.andImm b) := rfl
theorem rolAcc : Statement .rolAcc := rfl
theorem ancImm2B (b : Byte) : Statement (.ancImm2B b) := rfl
theorem bitAbs (w : Addr) : Statement (.bitAbs w) := rfl
theorem andAbs (w : Addr) : Statement (.andAbs w) := rfl
theorem rolAbs (w : Addr) : Statement (.rolAbs w) := rfl
theorem rlaAbs (w : Addr) : Statement (.rlaAbs w) := rfl
theorem bmi (b : Byte) : Statement (.bmi b) := rfl
theorem andIzy (b : Byte) : Statement (.andIzy b) := rfl
theorem jam32 : Statement .jam32 := rfl
theorem rlaIzy (b : Byte) : Statement (.rlaIzy b) := rfl
theorem nopZpx34 (b : Byte) : Statement (.nopZpx34 b) := rfl
theorem andZpx (b : Byte) : Statement (.andZpx b) := rfl
theorem rolZpx (b : Byte) : Statement (.rolZpx b) := rfl
theorem rlaZpx (b : Byte) : Statement (.rlaZpx b) := rfl
theorem sec : Statement .sec := rfl
theorem andAby (w : Addr) : Statement (.andAby w) := rfl
theorem nop3A : Statement .nop3A := rfl
theorem rlaAby (w : Addr) : Statement (.rlaAby w) := rfl
theorem nopAbx3C (w : Addr) : Statement (.nopAbx3C w) := rfl
theorem andAbx (w : Addr) : Statement (.andAbx w) := rfl
theorem rolAbx (w : Addr) : Statement (.rolAbx w) := rfl
theorem rlaAbx (w : Addr) : Statement (.rlaAbx w) := rfl
theorem rti : Statement .rti := rfl
theorem eorIzx (b : Byte) : Statement (.eorIzx b) := rfl
theorem jam42 : Statement .jam42 := rfl
theorem sreIzx (b : Byte) : Statement (.sreIzx b) := rfl
theorem nopZp44 (b : Byte) : Statement (.nopZp44 b) := rfl
theorem eorZp (b : Byte) : Statement (.eorZp b) := rfl
theorem lsrZp (b : Byte) : Statement (.lsrZp b) := rfl
theorem sreZp (b : Byte) : Statement (.sreZp b) := rfl
theorem pha : Statement .pha := rfl
theorem eorImm (b : Byte) : Statement (.eorImm b) := rfl
theorem lsrAcc : Statement .lsrAcc := rfl
theorem alrImm (b : Byte) : Statement (.alrImm b) := rfl
theorem jmpAbs (w : Addr) : Statement (.jmpAbs w) := rfl
theorem eorAbs (w : Addr) : Statement (.eorAbs w) := rfl
theorem lsrAbs (w : Addr) : Statement (.lsrAbs w) := rfl
theorem sreAbs (w : Addr) : Statement (.sreAbs w) := rfl
theorem bvc (b : Byte) : Statement (.bvc b) := rfl
theorem eorIzy (b : Byte) : Statement (.eorIzy b) := rfl
theorem jam52 : Statement .jam52 := rfl
theorem sreIzy (b : Byte) : Statement (.sreIzy b) := rfl
theorem nopZpx54 (b : Byte) : Statement (.nopZpx54 b) := rfl
theorem eorZpx (b : Byte) : Statement (.eorZpx b) := rfl
theorem lsrZpx (b : Byte) : Statement (.lsrZpx b) := rfl
theorem sreZpx (b : Byte) : Statement (.sreZpx b) := rfl
theorem cli : Statement .cli := rfl
theorem eorAby (w : Addr) : Statement (.eorAby w) := rfl
theorem nop5A : Statement .nop5A := rfl
theorem sreAby (w : Addr) : Statement (.sreAby w) := rfl
theorem nopAbx5C (w : Addr) : Statement (.nopAbx5C w) := rfl
theorem eorAbx (w : Addr) : Statement (.eorAbx w) := rfl
theorem lsrAbx (w : Addr) : Statement (.lsrAbx w) := rfl
theorem sreAbx (w : Addr) : Statement (.sreAbx w) := rfl
theorem rts : Statement .rts := rfl
theorem adcIzx (b : Byte) : Statement (.adcIzx b) := rfl
theorem jam62 : Statement .jam62 := rfl
theorem rraIzx (b : Byte) : Statement (.rraIzx b) := rfl
theorem nopZp64 (b : Byte) : Statement (.nopZp64 b) := rfl
theorem adcZp (b : Byte) : Statement (.adcZp b) := rfl
theorem rorZp (b : Byte) : Statement (.rorZp b) := rfl
theorem rraZp (b : Byte) : Statement (.rraZp b) := rfl
theorem pla : Statement .pla := rfl
theorem adcImm (b : Byte) : Statement (.adcImm b) := rfl
theorem rorAcc : Statement .rorAcc := rfl
theorem arrImm (b : Byte) : Statement (.arrImm b) := rfl
theorem jmpInd (w : Addr) : Statement (.jmpInd w) := rfl
theorem adcAbs (w : Addr) : Statement (.adcAbs w) := rfl
theorem rorAbs (w : Addr) : Statement (.rorAbs w) := rfl
theorem rraAbs (w : Addr) : Statement (.rraAbs w) := rfl
theorem bvs (b : Byte) : Statement (.bvs b) := rfl
theorem adcIzy (b : Byte) : Statement (.adcIzy b) := rfl
theorem jam72 : Statement .jam72 := rfl
theorem rraIzy (b : Byte) : Statement (.rraIzy b) := rfl
theorem nopZpx74 (b : Byte) : Statement (.nopZpx74 b) := rfl
theorem adcZpx (b : Byte) : Statement (.adcZpx b) := rfl
theorem rorZpx (b : Byte) : Statement (.rorZpx b) := rfl
theorem rraZpx (b : Byte) : Statement (.rraZpx b) := rfl
theorem sei : Statement .sei := rfl
theorem adcAby (w : Addr) : Statement (.adcAby w) := rfl
theorem nop7A : Statement .nop7A := rfl
theorem rraAby (w : Addr) : Statement (.rraAby w) := rfl
theorem nopAbx7C (w : Addr) : Statement (.nopAbx7C w) := rfl
theorem adcAbx (w : Addr) : Statement (.adcAbx w) := rfl
theorem rorAbx (w : Addr) : Statement (.rorAbx w) := rfl
theorem rraAbx (w : Addr) : Statement (.rraAbx w) := rfl
theorem nopImm80 (b : Byte) : Statement (.nopImm80 b) := rfl
theorem staIzx (b : Byte) : Statement (.staIzx b) := rfl
theorem nopImm82 (b : Byte) : Statement (.nopImm82 b) := rfl
theorem saxIzx (b : Byte) : Statement (.saxIzx b) := rfl
theorem styZp (b : Byte) : Statement (.styZp b) := rfl
theorem staZp (b : Byte) : Statement (.staZp b) := rfl
theorem stxZp (b : Byte) : Statement (.stxZp b) := rfl
theorem saxZp (b : Byte) : Statement (.saxZp b) := rfl
theorem dey : Statement .dey := rfl
theorem nopImm89 (b : Byte) : Statement (.nopImm89 b) := rfl
theorem txa : Statement .txa := rfl
theorem xaa8B : Statement .xaa8B := rfl
theorem styAbs (w : Addr) : Statement (.styAbs w) := rfl
theorem staAbs (w : Addr) : Statement (.staAbs w) := rfl
theorem stxAbs (w : Addr) : Statement (.stxAbs w) := rfl
theorem saxAbs (w : Addr) : Statement (.saxAbs w) := rfl
theorem bcc (b : Byte) : Statement (.bcc b) := rfl
theorem staIzy (b : Byte) : Statement (.staIzy b) := rfl
theorem jam92 : Statement .jam92 := rfl
theorem ahx93 : Statement .ahx93 := rfl
theorem styZpx (b : Byte) : Statement (.styZpx b) := rfl
theorem staZpx (b : Byte) : Statement (.staZpx b) := rfl
theorem stxZpy (b : Byte) : Statement (.stxZpy b) := rfl
theorem saxZpy (b : Byte) : Statement (.saxZpy b) := rfl
theorem tya : Statement .tya := rfl
theorem staAby (w : Addr) : Statement (.staAby w) := rfl
theorem txs : Statement .txs := rfl
theorem tas9B : Statement .tas9B := rfl
theorem shy9C : Statement .shy9C := rfl
theorem staAbx (w : Addr) : Statement (.staAbx w) := rfl
theorem shx9E : Statement .shx9E := rfl
theorem ahx9F : Statement .ahx9F := rfl
theorem ldyImm (b : Byte) : Statement (.ldyImm b) := rfl
theorem ldaIzx (b : Byte) : Statement (.ldaIzx b) := rfl
theorem ldxImm (b : Byte) : Statement (.ldxImm b) := rfl
theorem laxIzx (b : Byte) : Statement (.laxIzx b) := rfl
theorem ldyZp (b : Byte) : Statement (.ldyZp b) := rfl
theorem ldaZp (b : Byte) : Statement (.ldaZp b) := rfl
theorem ldxZp (b : Byte) : Statement (.ldxZp b) := rfl
theorem laxZp (b : Byte) : Statement (.laxZp b) := rfl
theorem tay : Statement .tay := rfl
theorem ldaImm (b : Byte) : Statement (.ldaImm b) := rfl
theorem tax : Statement .tax := rfl
theorem lxaAB : Statement .lxaAB := rfl
theorem ldyAbs (w : Addr) : Statement (.ldyAbs w) := rfl
theorem ldaAbs (w : Addr) : Statement (.ldaAbs w) := rfl
theorem ldxAbs (w : Addr) : Statement (.ldxAbs w) := rfl
theorem laxAbs (w : Addr) : Statement (.laxAbs w) := rfl
theorem bcs (b : Byte) : Statement (.bcs b) := rfl
theorem ldaIzy (b : Byte) : Statement (.ldaIzy b) := rfl
theorem jamB2 : Statement .jamB2 := rfl
theorem laxIzy (b : Byte) : Statement (.laxIzy b) := rfl
theorem ldyZpx (b : Byte) : Statement (.ldyZpx b) := rfl
theorem ldaZpx (b : Byte) : Statement (.ldaZpx b) := rfl
theorem ldxZpy (b : Byte) : Statement (.ldxZpy b) := rfl
theorem laxZpy (b : Byte) : Statement (.laxZpy b) := rfl
theorem clv : Statement .clv := rfl
theorem ldaAby (w : Addr) : Statement (.ldaAby w) := rfl
theorem tsx : Statement .tsx := rfl
theorem lasBB : Statement .lasBB := rfl
theorem ldyAbx (w : Addr) : Statement (.ldyAbx w) := rfl
theorem ldaAbx (w : Addr) : Statement (.ldaAbx w) := rfl
theorem ldxAby (w : Addr) : Statement (.ldxAby w) := rfl
theorem laxAby (w : Addr) : Statement (.laxAby w) := rfl
theorem cpyImm (b : Byte) : Statement (.cpyImm b) := rfl
theorem cmpIzx (b : Byte) : Statement (.cmpIzx b) := rfl
theorem nopImmC2 (b : Byte) : Statement (.nopImmC2 b) := rfl
theorem dcpIzx (b : Byte) : Statement (.dcpIzx b) := rfl
theorem cpyZp (b : Byte) : Statement (.cpyZp b) := rfl
theorem cmpZp (b : Byte) : Statement (.cmpZp b) := rfl
theorem decZp (b : Byte) : Statement (.decZp b) := rfl
theorem dcpZp (b : Byte) : Statement (.dcpZp b) := rfl
theorem iny : Statement .iny := rfl
theorem cmpImm (b : Byte) : Statement (.cmpImm b) := rfl
theorem dex : Statement .dex := rfl
theorem axsImm (b : Byte) : Statement (.axsImm b) := rfl
theorem cpyAbs (w : Addr) : Statement (.cpyAbs w) := rfl
theorem cmpAbs (w : Addr) : Statement (.cmpAbs w) := rfl
theorem decAbs (w : Addr) : Statement (.decAbs w) := rfl
theorem dcpAbs (w : Addr) : Statement (.dcpAbs w) := rfl
theorem bne (b : Byte) : Statement (.bne b) := rfl
theorem cmpIzy (b : Byte) : Statement (.cmpIzy b) := rfl
theorem jamD2 : Statement .jamD2 := rfl
theorem dcpIzy (b : Byte) : Statement (.dcpIzy b) := rfl
theorem nopZpxD4 (b : Byte) : Statement (.nopZpxD4 b) := rfl
theorem cmpZpx (b : Byte) : Statement (.cmpZpx b) := rfl
theorem decZpx (b : Byte) : Statement (.decZpx b) := rfl
theorem dcpZpx (b : Byte) : Statement (.dcpZpx b) := rfl
theorem cld : Statement .cld := rfl
theorem cmpAby (w : Addr) : Statement (.cmpAby w) := rfl
theorem nopDA : Statement .nopDA := rfl
theorem dcpAby (w : Addr) : Statement (.dcpAby w) := rfl
theorem nopAbxDC (w : Addr) : Statement (.nopAbxDC w) := rfl
theorem cmpAbx (w : Addr) : Statement (.cmpAbx w) := rfl
theorem decAbx (w : Addr) : Statement (.decAbx w) := rfl
theorem dcpAbx (w : Addr) : Statement (.dcpAbx w) := rfl
theorem cpxImm (b : Byte) : Statement (.cpxImm b) := rfl
theorem sbcIzx (b : Byte) : Statement (.sbcIzx b) := rfl
theorem nopImmE2 (b : Byte) : Statement (.nopImmE2 b) := rfl
theorem isbIzx (b : Byte) : Statement (.isbIzx b) := rfl
theorem cpxZp (b : Byte) : Statement (.cpxZp b) := rfl
theorem sbcZp (b : Byte) : Statement (.sbcZp b) := rfl
theorem incZp (b : Byte) : Statement (.incZp b) := rfl
theorem isbZp (b : Byte) : Statement (.isbZp b) := rfl
theorem inx : Statement .inx := rfl
theorem sbcImm (b : Byte) : Statement (.sbcImm b) := rfl
theorem nop : Statement .nop := rfl
theorem sbcImmEB (b : Byte) : Statement (.sbcImmEB b) := rfl
theorem cpxAbs (w : Addr) : Statement (.cpxAbs w) := rfl
theorem sbcAbs (w : Addr) : Statement (.sbcAbs w) := rfl
theorem incAbs (w : Addr) : Statement (.incAbs w) := rfl
theorem isbAbs (w : Addr) : Statement (.isbAbs w) := rfl
theorem beq (b : Byte) : Statement (.beq b) := rfl
theorem sbcIzy (b : Byte) : Statement (.sbcIzy b) := rfl
theorem jamF2 : Statement .jamF2 := rfl
theorem isbIzy (b : Byte) : Statement (.isbIzy b) := rfl
theorem nopZpxF4 (b : Byte) : Statement (.nopZpxF4 b) := rfl
theorem sbcZpx (b : Byte) : Statement (.sbcZpx b) := rfl
theorem incZpx (b : Byte) : Statement (.incZpx b) := rfl
theorem isbZpx (b : Byte) : Statement (.isbZpx b) := rfl
theorem sed : Statement .sed := rfl
theorem sbcAby (w : Addr) : Statement (.sbcAby w) := rfl
theorem nopFA : Statement .nopFA := rfl
theorem isbAby (w : Addr) : Statement (.isbAby w) := rfl
theorem nopAbxFC (w : Addr) : Statement (.nopAbxFC w) := rfl
theorem sbcAbx (w : Addr) : Statement (.sbcAbx w) := rfl
theorem incAbx (w : Addr) : Statement (.incAbx w) := rfl
theorem isbAbx (w : Addr) : Statement (.isbAbx w) := rfl

end Sys2Proof.Laws.EncodedLength
end

