-- ==== Sys2Proof/Tests/Slice0.lean ====
section
/-!
SUPPORT. Tests of the model against the spec's own map and numbers, and a witness for the hypotheses of each statement
of Certificates/Slice0/Obligations.lean that has some. Every expected result is copied from spec/: the decodings from
the map of rule R106 in spec/30_encoding.md, the single steps from the rows V<nn>-<nn> of spec/95_test_vectors.md.
-/

namespace Sys2Proof.Tests

open Sys2Proof Sys2Proof.Machine Sys2Proof.Claim

/-! ### States for the tests -/

/-- The start state of the spec's vectors but for memory: the reset state at 0x8000, with RAM at every address. -/
def base : State := { State.reset with pc := 0x8000 }

/-- Cells set before the step, in order. -/
def preset : List (Addr × Byte) → State → State
  | [], s => s
  | (a, v) :: rest, s => preset rest (placeByte a v s)

/-- Instruction bytes placed at an address and up. -/
def withCode (s : State) : Addr → List Byte → State
  | _, [] => s
  | a, v :: rest => placeByte a v (withCode s (a + 1) rest)

/-- A vector's start state: the cells, and the instruction's bytes at `PC`. -/
def start (cells : List (Addr × Byte)) (code : List Byte) (s : State) : State := withCode (preset cells s) s.pc code

/-- One call of `step()` returns continue and leaves what the vector's end column says of the start state. -/
abbrev Runs (cells : List (Addr × Byte)) (code : List Byte) (s : State) (finish : State → State) : Prop :=
  stepResult (start cells code s) = .goOn (finish (start cells code s))

/-- The same for a step that returns halt. -/
abbrev Halts (cells : List (Addr × Byte)) (code : List Byte) (s : State) (finish : State → State) : Prop :=
  stepResult (start cells code s) = .halt (finish (start cells code s))

/-- The step ends in a fatal condition. -/
abbrev IsFatal (cells : List (Addr × Byte)) (code : List Byte) (s : State) (f : Fault) : Prop :=
  stepResult (start cells code s) = .fatal f

/-! ### Well-formedness: the one check, "the opcode byte has a table entry", refuses each of the twenty bytes -/

theorem test_illformed_refused :
    ¬ Instr.jam02.WellFormed ∧ ¬ Instr.jam12.WellFormed ∧ ¬ Instr.jam22.WellFormed ∧ ¬ Instr.jam32.WellFormed ∧
    ¬ Instr.jam42.WellFormed ∧ ¬ Instr.jam52.WellFormed ∧ ¬ Instr.jam62.WellFormed ∧ ¬ Instr.jam72.WellFormed ∧
    ¬ Instr.jam92.WellFormed ∧ ¬ Instr.jamB2.WellFormed ∧ ¬ Instr.jamD2.WellFormed ∧ ¬ Instr.jamF2.WellFormed ∧
    ¬ Instr.xaa8B.WellFormed ∧ ¬ Instr.lxaAB.WellFormed ∧ ¬ Instr.lasBB.WellFormed ∧ ¬ Instr.tas9B.WellFormed ∧
    ¬ Instr.ahx93.WellFormed ∧ ¬ Instr.ahx9F.WellFormed ∧ ¬ Instr.shx9E.WellFormed ∧
    ¬ Instr.shy9C.WellFormed := by decide

theorem test_wellformed_admitted : (Instr.ldaImm 0x00).WellFormed ∧ Instr.brk.WellFormed := by decide

/-! ### Decoding: a word of every constructor, written out from the map of rule R106 (a byte shown there as `--` has its
own constructor, which is not well-formed) -/

theorem test_decode_row_0 :
    decode [0x00] = .ok (.brk, []) ∧ decode [0x01, 0x34] = .ok (.oraIzx 0x34, []) ∧
    decode [0x02] = .ok (.jam02, []) ∧ decode [0x03, 0x34] = .ok (.sloIzx 0x34, []) ∧
    decode [0x04, 0x34] = .ok (.nopZp04 0x34, []) ∧ decode [0x05, 0x34] = .ok (.oraZp 0x34, []) ∧
    decode [0x06, 0x34] = .ok (.aslZp 0x34, []) ∧ decode [0x07, 0x34] = .ok (.sloZp 0x34, []) ∧
    decode [0x08] = .ok (.php, []) ∧ decode [0x09, 0x34] = .ok (.oraImm 0x34, []) ∧
    decode [0x0A] = .ok (.aslAcc, []) ∧ decode [0x0B, 0x34] = .ok (.ancImm0B 0x34, []) ∧
    decode [0x0C, 0x34, 0x12] = .ok (.nopAbs 0x1234, []) ∧ decode [0x0D, 0x34, 0x12] = .ok (.oraAbs 0x1234, []) ∧
    decode [0x0E, 0x34, 0x12] = .ok (.aslAbs 0x1234, []) ∧ decode [0x0F, 0x34, 0x12] = .ok (.sloAbs 0x1234, []) :=
  ⟨rfl, rfl, rfl, rfl, rfl, rfl, rfl, rfl, rfl, rfl, rfl, rfl, rfl, rfl, rfl, rfl⟩

theorem test_decode_row_1 :
    decode [0x10, 0x34] = .ok (.bpl 0x34, []) ∧ decode [0x11, 0x34] = .ok (.oraIzy 0x34, []) ∧
    decode [0x12] = .ok (.jam12, []) ∧ decode [0x13, 0x34] = .ok (.sloIzy 0x34, []) ∧
    decode [0x14, 0x34] = .ok (.nopZpx14 0x34, []) ∧ decode [0x15, 0x34] = .ok (.oraZpx 0x34, []) ∧
    decode [0x16, 0x34] = .ok (.aslZpx 0x34, []) ∧ decode [0x17, 0x34] = .ok (.sloZpx 0x34, []) ∧
    decode [0x18] = .ok (.clc, []) ∧ decode [0x19, 0x34, 0x12] = .ok (.oraAby 0x1234, []) ∧
    decode [0x1A] = .ok (.nop1A, []) ∧ decode [0x1B, 0x34, 0x12] = .ok (.sloAby 0x1234, []) ∧
    decode [0x1C, 0x34, 0x12] = .ok (.nopAbx1C 0x1234, []) ∧ decode [0x1D, 0x34, 0x12] = .ok (.oraAbx 0x1234, []) ∧
    decode [0x1E, 0x34, 0x12] = .ok (.aslAbx 0x1234, []) ∧ decode [0x1F, 0x34, 0x12] = .ok (.sloAbx 0x1234, []) :=
  ⟨rfl, rfl, rfl, rfl, rfl, rfl, rfl, rfl, rfl, rfl, rfl, rfl, rfl, rfl, rfl, rfl⟩

theorem test_decode_row_2 :
    decode [0x20, 0x34, 0x12] = .ok (.jsr 0x1234, []) ∧ decode [0x21, 0x34] = .ok (.andIzx 0x34, []) ∧
    decode [0x22] = .ok (.jam22, []) ∧ decode [0x23, 0x34] = .ok (.rlaIzx 0x34, []) ∧
    decode [0x24, 0x34] = .ok (.bitZp 0x34, []) ∧ decode [0x25, 0x34] = .ok (.andZp 0x34, []) ∧
    decode [0x26, 0x34] = .ok (.rolZp 0x34, []) ∧ decode [0x27, 0x34] = .ok (.rlaZp 0x34, []) ∧
    decode [0x28] = .ok (.plp, []) ∧ decode [0x29, 0x34] = .ok (.andImm 0x34, []) ∧
    decode [0x2A] = .ok (.rolAcc, []) ∧ decode [0x2B, 0x34] = .ok (.ancImm2B 0x34, []) ∧
    decode [0x2C, 0x34, 0x12] = .ok (.bitAbs 0x1234, []) ∧ decode [0x2D, 0x34, 0x12] = .ok (.andAbs 0x1234, []) ∧
    decode [0x2E, 0x34, 0x12] = .ok (.rolAbs 0x1234, []) ∧ decode [0x2F, 0x34, 0x12] = .ok (.rlaAbs 0x1234, []) :=
  ⟨rfl, rfl, rfl, rfl, rfl, rfl, rfl, rfl, rfl, rfl, rfl, rfl, rfl, rfl, rfl, rfl⟩

theorem test_decode_row_3 :
    decode [0x30, 0x34] = .ok (.bmi 0x34, []) ∧ decode [0x31, 0x34] = .ok (.andIzy 0x34, []) ∧
    decode [0x32] = .ok (.jam32, []) ∧ decode [0x33, 0x34] = .ok (.rlaIzy 0x34, []) ∧
    decode [0x34, 0x34] = .ok (.nopZpx34 0x34, []) ∧ decode [0x35, 0x34] = .ok (.andZpx 0x34, []) ∧
    decode [0x36, 0x34] = .ok (.rolZpx 0x34, []) ∧ decode [0x37, 0x34] = .ok (.rlaZpx 0x34, []) ∧
    decode [0x38] = .ok (.sec, []) ∧ decode [0x39, 0x34, 0x12] = .ok (.andAby 0x1234, []) ∧
    decode [0x3A] = .ok (.nop3A, []) ∧ decode [0x3B, 0x34, 0x12] = .ok (.rlaAby 0x1234, []) ∧
    decode [0x3C, 0x34, 0x12] = .ok (.nopAbx3C 0x1234, []) ∧ decode [0x3D, 0x34, 0x12] = .ok (.andAbx 0x1234, []) ∧
    decode [0x3E, 0x34, 0x12] = .ok (.rolAbx 0x1234, []) ∧ decode [0x3F, 0x34, 0x12] = .ok (.rlaAbx 0x1234, []) :=
  ⟨rfl, rfl, rfl, rfl, rfl, rfl, rfl, rfl, rfl, rfl, rfl, rfl, rfl, rfl, rfl, rfl⟩

theorem test_decode_row_4 :
    decode [0x40] = .ok (.rti, []) ∧ decode [0x41, 0x34] = .ok (.eorIzx 0x34, []) ∧
    decode [0x42] = .ok (.jam42, []) ∧ decode [0x43, 0x34] = .ok (.sreIzx 0x34, []) ∧
    decode [0x44, 0x34] = .ok (.nopZp44 0x34, []) ∧ decode [0x45, 0x34] = .ok (.eorZp 0x34, []) ∧
    decode [0x46, 0x34] = .ok (.lsrZp 0x34, []) ∧ decode [0x47, 0x34] = .ok (.sreZp 0x34, []) ∧
    decode [0x48] = .ok (.pha, []) ∧ decode [0x49, 0x34] = .ok (.eorImm 0x34, []) ∧
    decode [0x4A] = .ok (.lsrAcc, []) ∧ decode [0x4B, 0x34] = .ok (.alrImm 0x34, []) ∧
    decode [0x4C, 0x34, 0x12] = .ok (.jmpAbs 0x1234, []) ∧ decode [0x4D, 0x34, 0x12] = .ok (.eorAbs 0x1234, []) ∧
    decode [0x4E, 0x34, 0x12] = .ok (.lsrAbs 0x1234, []) ∧ decode [0x4F, 0x34, 0x12] = .ok (.sreAbs 0x1234, []) :=
  ⟨rfl, rfl, rfl, rfl, rfl, rfl, rfl, rfl, rfl, rfl, rfl, rfl, rfl, rfl, rfl, rfl⟩

theorem test_decode_row_5 :
    decode [0x50, 0x34] = .ok (.bvc 0x34, []) ∧ decode [0x51, 0x34] = .ok (.eorIzy 0x34, []) ∧
    decode [0x52] = .ok (.jam52, []) ∧ decode [0x53, 0x34] = .ok (.sreIzy 0x34, []) ∧
    decode [0x54, 0x34] = .ok (.nopZpx54 0x34, []) ∧ decode [0x55, 0x34] = .ok (.eorZpx 0x34, []) ∧
    decode [0x56, 0x34] = .ok (.lsrZpx 0x34, []) ∧ decode [0x57, 0x34] = .ok (.sreZpx 0x34, []) ∧
    decode [0x58] = .ok (.cli, []) ∧ decode [0x59, 0x34, 0x12] = .ok (.eorAby 0x1234, []) ∧
    decode [0x5A] = .ok (.nop5A, []) ∧ decode [0x5B, 0x34, 0x12] = .ok (.sreAby 0x1234, []) ∧
    decode [0x5C, 0x34, 0x12] = .ok (.nopAbx5C 0x1234, []) ∧ decode [0x5D, 0x34, 0x12] = .ok (.eorAbx 0x1234, []) ∧
    decode [0x5E, 0x34, 0x12] = .ok (.lsrAbx 0x1234, []) ∧ decode [0x5F, 0x34, 0x12] = .ok (.sreAbx 0x1234, []) :=
  ⟨rfl, rfl, rfl, rfl, rfl, rfl, rfl, rfl, rfl, rfl, rfl, rfl, rfl, rfl, rfl, rfl⟩

theorem test_decode_row_6 :
    decode [0x60] = .ok (.rts, []) ∧ decode [0x61, 0x34] = .ok (.adcIzx 0x34, []) ∧
    decode [0x62] = .ok (.jam62, []) ∧ decode [0x63, 0x34] = .ok (.rraIzx 0x34, []) ∧
    decode [0x64, 0x34] = .ok (.nopZp64 0x34, []) ∧ decode [0x65, 0x34] = .ok (.adcZp 0x34, []) ∧
    decode [0x66, 0x34] = .ok (.rorZp 0x34, []) ∧ decode [0x67, 0x34] = .ok (.rraZp 0x34, []) ∧
    decode [0x68] = .ok (.pla, []) ∧ decode [0x69, 0x34] = .ok (.adcImm 0x34, []) ∧
    decode [0x6A] = .ok (.rorAcc, []) ∧ decode [0x6B, 0x34] = .ok (.arrImm 0x34, []) ∧
    decode [0x6C, 0x34, 0x12] = .ok (.jmpInd 0x1234, []) ∧ decode [0x6D, 0x34, 0x12] = .ok (.adcAbs 0x1234, []) ∧
    decode [0x6E, 0x34, 0x12] = .ok (.rorAbs 0x1234, []) ∧ decode [0x6F, 0x34, 0x12] = .ok (.rraAbs 0x1234, []) :=
  ⟨rfl, rfl, rfl, rfl, rfl, rfl, rfl, rfl, rfl, rfl, rfl, rfl, rfl, rfl, rfl, rfl⟩

theorem test_decode_row_7 :
    decode [0x70, 0x34] = .ok (.bvs 0x34, []) ∧ decode [0x71, 0x34] = .ok (.adcIzy 0x34, []) ∧
    decode [0x72] = .ok (.jam72, []) ∧ decode [0x73, 0x34] = .ok (.rraIzy 0x34, []) ∧
    decode [0x74, 0x34] = .ok (.nopZpx74 0x34, []) ∧ decode [0x75, 0x34] = .ok (.adcZpx 0x34, []) ∧
    decode [0x76, 0x34] = .ok (.rorZpx 0x34, []) ∧ decode [0x77, 0x34] = .ok (.rraZpx 0x34, []) ∧
    decode [0x78] = .ok (.sei, []) ∧ decode [0x79, 0x34, 0x12] = .ok (.adcAby 0x1234, []) ∧
    decode [0x7A] = .ok (.nop7A, []) ∧ decode [0x7B, 0x34, 0x12] = .ok (.rraAby 0x1234, []) ∧
    decode [0x7C, 0x34, 0x12] = .ok (.nopAbx7C 0x1234, []) ∧ decode [0x7D, 0x34, 0x12] = .ok (.adcAbx 0x1234, []) ∧
    decode [0x7E, 0x34, 0x12] = .ok (.rorAbx 0x1234, []) ∧ decode [0x7F, 0x34, 0x12] = .ok (.rraAbx 0x1234, []) :=
  ⟨rfl, rfl, rfl, rfl, rfl, rfl, rfl, rfl, rfl, rfl, rfl, rfl, rfl, rfl, rfl, rfl⟩

theorem test_decode_row_8 :
    decode [0x80, 0x34] = .ok (.nopImm80 0x34, []) ∧ decode [0x81, 0x34] = .ok (.staIzx 0x34, []) ∧
    decode [0x82, 0x34] = .ok (.nopImm82 0x34, []) ∧ decode [0x83, 0x34] = .ok (.saxIzx 0x34, []) ∧
    decode [0x84, 0x34] = .ok (.styZp 0x34, []) ∧ decode [0x85, 0x34] = .ok (.staZp 0x34, []) ∧
    decode [0x86, 0x34] = .ok (.stxZp 0x34, []) ∧ decode [0x87, 0x34] = .ok (.saxZp 0x34, []) ∧
    decode [0x88] = .ok (.dey, []) ∧ decode [0x89, 0x34] = .ok (.nopImm89 0x34, []) ∧
    decode [0x8A] = .ok (.txa, []) ∧ decode [0x8B] = .ok (.xaa8B, []) ∧
    decode [0x8C, 0x34, 0x12] = .ok (.styAbs 0x1234, []) ∧ decode [0x8D, 0x34, 0x12] = .ok (.staAbs 0x1234, []) ∧
    decode [0x8E, 0x34, 0x12] = .ok (.stxAbs 0x1234, []) ∧ decode [0x8F, 0x34, 0x12] = .ok (.saxAbs 0x1234, []) :=
  ⟨rfl, rfl, rfl, rfl, rfl, rfl, rfl, rfl, rfl, rfl, rfl, rfl, rfl, rfl, rfl, rfl⟩

theorem test_decode_row_9 :
    decode [0x90, 0x34] = .ok (.bcc 0x34, []) ∧ decode [0x91, 0x34] = .ok (.staIzy 0x34, []) ∧
    decode [0x92] = .ok (.jam92, []) ∧ decode [0x93] = .ok (.ahx93, []) ∧
    decode [0x94, 0x34] = .ok (.styZpx 0x34, []) ∧ decode [0x95, 0x34] = .ok (.staZpx 0x34, []) ∧
    decode [0x96, 0x34] = .ok (.stxZpy 0x34, []) ∧ decode [0x97, 0x34] = .ok (.saxZpy 0x34, []) ∧
    decode [0x98] = .ok (.tya, []) ∧ decode [0x99, 0x34, 0x12] = .ok (.staAby 0x1234, []) ∧
    decode [0x9A] = .ok (.txs, []) ∧ decode [0x9B] = .ok (.tas9B, []) ∧ decode [0x9C] = .ok (.shy9C, []) ∧
    decode [0x9D, 0x34, 0x12] = .ok (.staAbx 0x1234, []) ∧ decode [0x9E] = .ok (.shx9E, []) ∧
    decode [0x9F] = .ok (.ahx9F, []) :=
  ⟨rfl, rfl, rfl, rfl, rfl, rfl, rfl, rfl, rfl, rfl, rfl, rfl, rfl, rfl, rfl, rfl⟩

theorem test_decode_row_A :
    decode [0xA0, 0x34] = .ok (.ldyImm 0x34, []) ∧ decode [0xA1, 0x34] = .ok (.ldaIzx 0x34, []) ∧
    decode [0xA2, 0x34] = .ok (.ldxImm 0x34, []) ∧ decode [0xA3, 0x34] = .ok (.laxIzx 0x34, []) ∧
    decode [0xA4, 0x34] = .ok (.ldyZp 0x34, []) ∧ decode [0xA5, 0x34] = .ok (.ldaZp 0x34, []) ∧
    decode [0xA6, 0x34] = .ok (.ldxZp 0x34, []) ∧ decode [0xA7, 0x34] = .ok (.laxZp 0x34, []) ∧
    decode [0xA8] = .ok (.tay, []) ∧ decode [0xA9, 0x34] = .ok (.ldaImm 0x34, []) ∧ decode [0xAA] = .ok (.tax, []) ∧
    decode [0xAB] = .ok (.lxaAB, []) ∧ decode [0xAC, 0x34, 0x12] = .ok (.ldyAbs 0x1234, []) ∧
    decode [0xAD, 0x34, 0x12] = .ok (.ldaAbs 0x1234, []) ∧ decode [0xAE, 0x34, 0x12] = .ok (.ldxAbs 0x1234, []) ∧
    decode [0xAF, 0x34, 0x12] = .ok (.laxAbs 0x1234, []) :=
  ⟨rfl, rfl, rfl, rfl, rfl, rfl, rfl, rfl, rfl, rfl, rfl, rfl, rfl, rfl, rfl, rfl⟩

theorem test_decode_row_B :
    decode [0xB0, 0x34] = .ok (.bcs 0x34, []) ∧ decode [0xB1, 0x34] = .ok (.ldaIzy 0x34, []) ∧
    decode [0xB2] = .ok (.jamB2, []) ∧ decode [0xB3, 0x34] = .ok (.laxIzy 0x34, []) ∧
    decode [0xB4, 0x34] = .ok (.ldyZpx 0x34, []) ∧ decode [0xB5, 0x34] = .ok (.ldaZpx 0x34, []) ∧
    decode [0xB6, 0x34] = .ok (.ldxZpy 0x34, []) ∧ decode [0xB7, 0x34] = .ok (.laxZpy 0x34, []) ∧
    decode [0xB8] = .ok (.clv, []) ∧ decode [0xB9, 0x34, 0x12] = .ok (.ldaAby 0x1234, []) ∧
    decode [0xBA] = .ok (.tsx, []) ∧ decode [0xBB] = .ok (.lasBB, []) ∧
    decode [0xBC, 0x34, 0x12] = .ok (.ldyAbx 0x1234, []) ∧ decode [0xBD, 0x34, 0x12] = .ok (.ldaAbx 0x1234, []) ∧
    decode [0xBE, 0x34, 0x12] = .ok (.ldxAby 0x1234, []) ∧ decode [0xBF, 0x34, 0x12] = .ok (.laxAby 0x1234, []) :=
  ⟨rfl, rfl, rfl, rfl, rfl, rfl, rfl, rfl, rfl, rfl, rfl, rfl, rfl, rfl, rfl, rfl⟩

theorem test_decode_row_C :
    decode [0xC0, 0x34] = .ok (.cpyImm 0x34, []) ∧ decode [0xC1, 0x34] = .ok (.cmpIzx 0x34, []) ∧
    decode [0xC2, 0x34] = .ok (.nopImmC2 0x34, []) ∧ decode [0xC3, 0x34] = .ok (.dcpIzx 0x34, []) ∧
    decode [0xC4, 0x34] = .ok (.cpyZp 0x34, []) ∧ decode [0xC5, 0x34] = .ok (.cmpZp 0x34, []) ∧
    decode [0xC6, 0x34] = .ok (.decZp 0x34, []) ∧ decode [0xC7, 0x34] = .ok (.dcpZp 0x34, []) ∧
    decode [0xC8] = .ok (.iny, []) ∧ decode [0xC9, 0x34] = .ok (.cmpImm 0x34, []) ∧ decode [0xCA] = .ok (.dex, []) ∧
    decode [0xCB, 0x34] = .ok (.axsImm 0x34, []) ∧ decode [0xCC, 0x34, 0x12] = .ok (.cpyAbs 0x1234, []) ∧
    decode [0xCD, 0x34, 0x12] = .ok (.cmpAbs 0x1234, []) ∧ decode [0xCE, 0x34, 0x12] = .ok (.decAbs 0x1234, []) ∧
    decode [0xCF, 0x34, 0x12] = .ok (.dcpAbs 0x1234, []) :=
  ⟨rfl, rfl, rfl, rfl, rfl, rfl, rfl, rfl, rfl, rfl, rfl, rfl, rfl, rfl, rfl, rfl⟩

theorem test_decode_row_D :
    decode [0xD0, 0x34] = .ok (.bne 0x34, []) ∧ decode [0xD1, 0x34] = .ok (.cmpIzy 0x34, []) ∧
    decode [0xD2] = .ok (.jamD2, []) ∧ decode [0xD3, 0x34] = .ok (.dcpIzy 0x34, []) ∧
    decode [0xD4, 0x34] = .ok (.nopZpxD4 0x34, []) ∧ decode [0xD5, 0x34] = .ok (.cmpZpx 0x34, []) ∧
    decode [0xD6, 0x34] = .ok (.decZpx 0x34, []) ∧ decode [0xD7, 0x34] = .ok (.dcpZpx 0x34, []) ∧
    decode [0xD8] = .ok (.cld, []) ∧ decode [0xD9, 0x34, 0x12] = .ok (.cmpAby 0x1234, []) ∧
    decode [0xDA] = .ok (.nopDA, []) ∧ decode [0xDB, 0x34, 0x12] = .ok (.dcpAby 0x1234, []) ∧
    decode [0xDC, 0x34, 0x12] = .ok (.nopAbxDC 0x1234, []) ∧ decode [0xDD, 0x34, 0x12] = .ok (.cmpAbx 0x1234, []) ∧
    decode [0xDE, 0x34, 0x12] = .ok (.decAbx 0x1234, []) ∧ decode [0xDF, 0x34, 0x12] = .ok (.dcpAbx 0x1234, []) :=
  ⟨rfl, rfl, rfl, rfl, rfl, rfl, rfl, rfl, rfl, rfl, rfl, rfl, rfl, rfl, rfl, rfl⟩

theorem test_decode_row_E :
    decode [0xE0, 0x34] = .ok (.cpxImm 0x34, []) ∧ decode [0xE1, 0x34] = .ok (.sbcIzx 0x34, []) ∧
    decode [0xE2, 0x34] = .ok (.nopImmE2 0x34, []) ∧ decode [0xE3, 0x34] = .ok (.isbIzx 0x34, []) ∧
    decode [0xE4, 0x34] = .ok (.cpxZp 0x34, []) ∧ decode [0xE5, 0x34] = .ok (.sbcZp 0x34, []) ∧
    decode [0xE6, 0x34] = .ok (.incZp 0x34, []) ∧ decode [0xE7, 0x34] = .ok (.isbZp 0x34, []) ∧
    decode [0xE8] = .ok (.inx, []) ∧ decode [0xE9, 0x34] = .ok (.sbcImm 0x34, []) ∧ decode [0xEA] = .ok (.nop, []) ∧
    decode [0xEB, 0x34] = .ok (.sbcImmEB 0x34, []) ∧ decode [0xEC, 0x34, 0x12] = .ok (.cpxAbs 0x1234, []) ∧
    decode [0xED, 0x34, 0x12] = .ok (.sbcAbs 0x1234, []) ∧ decode [0xEE, 0x34, 0x12] = .ok (.incAbs 0x1234, []) ∧
    decode [0xEF, 0x34, 0x12] = .ok (.isbAbs 0x1234, []) :=
  ⟨rfl, rfl, rfl, rfl, rfl, rfl, rfl, rfl, rfl, rfl, rfl, rfl, rfl, rfl, rfl, rfl⟩

theorem test_decode_row_F :
    decode [0xF0, 0x34] = .ok (.beq 0x34, []) ∧ decode [0xF1, 0x34] = .ok (.sbcIzy 0x34, []) ∧
    decode [0xF2] = .ok (.jamF2, []) ∧ decode [0xF3, 0x34] = .ok (.isbIzy 0x34, []) ∧
    decode [0xF4, 0x34] = .ok (.nopZpxF4 0x34, []) ∧ decode [0xF5, 0x34] = .ok (.sbcZpx 0x34, []) ∧
    decode [0xF6, 0x34] = .ok (.incZpx 0x34, []) ∧ decode [0xF7, 0x34] = .ok (.isbZpx 0x34, []) ∧
    decode [0xF8] = .ok (.sed, []) ∧ decode [0xF9, 0x34, 0x12] = .ok (.sbcAby 0x1234, []) ∧
    decode [0xFA] = .ok (.nopFA, []) ∧ decode [0xFB, 0x34, 0x12] = .ok (.isbAby 0x1234, []) ∧
    decode [0xFC, 0x34, 0x12] = .ok (.nopAbxFC 0x1234, []) ∧ decode [0xFD, 0x34, 0x12] = .ok (.sbcAbx 0x1234, []) ∧
    decode [0xFE, 0x34, 0x12] = .ok (.incAbx 0x1234, []) ∧ decode [0xFF, 0x34, 0x12] = .ok (.isbAbx 0x1234, []) :=
  ⟨rfl, rfl, rfl, rfl, rfl, rfl, rfl, rfl, rfl, rfl, rfl, rfl, rfl, rfl, rfl, rfl⟩

/-! ### Single steps: the vectors of spec/95_test_vectors.md -/

/-! #### Memory system and addressing modes (section 2.1) -/

theorem test_V20_01 :
    Runs [] [0x8D, 0x10, 0x08] { base with a := 0x5A }
      (fun s => preset [(0x0810, 0x5A)] { s with p := 0x14, pc := 0x8003 }) := by decide

theorem test_V20_02 :
    Runs [(0x0010, 0x77)] [0xAD, 0x10, 0x18] base
      (fun s => { s with a := 0x77, p := 0x14, pc := 0x8003 }) := by decide

theorem test_V20_04 : IsFatal [] [0x8D, 0xFF, 0x3F] { base with a := 0x01 } (.ppuAccess 0x3FFF) := by decide

theorem test_V20_07 :
    Runs [(0x0025, 0x80)] [0xA5, 0x25] base (fun s => { s with a := 0x80, p := 0x94, pc := 0x8002 }) := by decide

theorem test_V20_08 :
    Runs [(0x0010, 0x42), (0x0110, 0x99)] [0xB5, 0xF0] { base with x := 0x20 }
      (fun s => { s with a := 0x42, p := 0x14, pc := 0x8002 }) := by decide

theorem test_V20_09 :
    Runs [(0x0000, 0x33), (0x0100, 0x99)] [0xB6, 0xFF] { base with y := 0x01 }
      (fun s => { s with x := 0x33, p := 0x14, pc := 0x8002 }) := by decide

theorem test_V20_11 :
    Runs [(0x0001, 0x66)] [0xBD, 0xFF, 0xFF] { base with x := 0x02 }
      (fun s => { s with a := 0x66, p := 0x14, pc := 0x8003 }) := by decide

theorem test_V20_12 :
    Runs [(0x0310, 0x44)] [0xB9, 0xF0, 0x02] { base with y := 0x20 }
      (fun s => { s with a := 0x44, p := 0x14, pc := 0x8003 }) := by decide

theorem test_V20_13 :
    Runs [(0x00FF, 0x34), (0x0000, 0x12), (0x0100, 0x99), (0x1234, 0xCD)] [0xA1, 0xFE] { base with x := 0x01 }
      (fun s => { s with a := 0xCD, p := 0x94, pc := 0x8002 }) := by decide

theorem test_V20_15 :
    Runs [(0x0010, 0xFE), (0x0011, 0xFF), (0x0003, 0x21)] [0xB1, 0x10] { base with y := 0x05 }
      (fun s => { s with a := 0x21, p := 0x14, pc := 0x8002 }) := by decide

theorem test_V20_17 :
    Runs [(0x00FF, 0x00), (0x0000, 0x03), (0x0100, 0x04), (0x0300, 0xAA), (0x0400, 0xBB)] [0xB1, 0xFF]
      { base with y := 0x00, cfg := { Config.default with indyZpWrap := false } }
      (fun s => { s with a := 0xBB, p := 0x94, pc := 0x8002 }) := by decide

theorem test_V20_18 :
    Runs [] [0xA9, 0x07] { base with pc := 0xFFFF }
      (fun s => { s with a := 0x07, p := 0x14, pc := 0x0001 }) := by decide

/-! #### Loads, stores, transfers (2.2) -/

theorem test_V40_02 :
    Runs [] [0xA9, 0x00] { base with a := 0x12, p := 0x94 }
      (fun s => { s with a := 0x00, p := 0x16, pc := 0x8002 }) := by decide

theorem test_V40_04 : Runs [] [0xA2, 0x80] base (fun s => { s with x := 0x80, p := 0x94, pc := 0x8002 }) := by decide

theorem test_V40_06 : Runs [] [0xA0, 0x01] base (fun s => { s with y := 0x01, p := 0x14, pc := 0x8002 }) := by decide

theorem test_V40_07 :
    Runs [(0x0000, 0xF0)] [0xB4, 0x80] { base with x := 0x80 }
      (fun s => { s with y := 0xF0, p := 0x94, pc := 0x8002 }) := by decide

theorem test_V40_13 :
    Runs [] [0x96, 0x10] { base with x := 0x77, y := 0x02 }
      (fun s => preset [(0x0012, 0x77)] { s with p := 0x14, pc := 0x8002 }) := by decide

theorem test_V40_14 :
    Runs [] [0x8E, 0x00, 0x07] { base with x := 0x78 }
      (fun s => preset [(0x0700, 0x78)] { s with p := 0x14, pc := 0x8003 }) := by decide

theorem test_V40_15 :
    Runs [] [0x94, 0x10] { base with x := 0xF1, y := 0x79 }
      (fun s => preset [(0x0001, 0x79)] { s with p := 0x14, pc := 0x8002 }) := by decide

theorem test_V40_16 :
    Runs [] [0xAA] { base with a := 0xFF, p := 0x94 }
      (fun s => { s with x := 0xFF, p := 0x94, pc := 0x8001 }) := by decide

theorem test_V40_18 :
    Runs [] [0xA8] { base with a := 0x80 } (fun s => { s with y := 0x80, p := 0x94, pc := 0x8001 }) := by decide

theorem test_V40_19 :
    Runs [] [0x8A] { base with a := 0x01, x := 0x00 }
      (fun s => { s with a := 0x00, p := 0x16, pc := 0x8001 }) := by decide

theorem test_V40_20 :
    Runs [] [0x98] { base with y := 0x7F, p := 0x94 }
      (fun s => { s with a := 0x7F, p := 0x14, pc := 0x8001 }) := by decide

theorem test_V40_21 : Runs [] [0xBA] base (fun s => { s with x := 0xFD, p := 0x94, pc := 0x8001 }) := by decide

theorem test_V40_23 :
    Runs [] [0x9A] { base with x := 0x00, p := 0x94 }
      (fun s => { s with sp := 0x00, p := 0x94, pc := 0x8001 }) := by decide

/-! #### Logic, arithmetic, compare, bit test, increment, decrement (2.3) -/

theorem test_V41_01 :
    Runs [] [0x29, 0x0F] { base with a := 0xF0 } (fun s => { s with a := 0x00, p := 0x16, pc := 0x8002 }) := by decide

theorem test_V41_03 :
    Runs [] [0x09, 0x00] { base with a := 0x00 } (fun s => { s with p := 0x16, pc := 0x8002 }) := by decide

theorem test_V41_04 :
    Runs [(0x0010, 0x80)] [0x05, 0x10] { base with a := 0x01 }
      (fun s => { s with a := 0x81, p := 0x94, pc := 0x8002 }) := by decide

theorem test_V41_05 :
    Runs [] [0x49, 0xFF] { base with a := 0xAA } (fun s => { s with a := 0x55, p := 0x14, pc := 0x8002 }) := by decide

theorem test_V41_07 :
    Runs [] [0x69, 0x50] { base with a := 0x50, p := 0x14 }
      (fun s => { s with a := 0xA0, p := 0xD4, pc := 0x8002 }) := by decide

theorem test_V41_10 :
    Runs [] [0x69, 0x80] { base with a := 0x80, p := 0x14 }
      (fun s => { s with a := 0x00, p := 0x57, pc := 0x8002 }) := by decide

theorem test_V41_19 :
    Runs [] [0xE9, 0x01] { base with a := 0x10, p := 0x15 }
      (fun s => { s with a := 0x0F, p := 0x15, pc := 0x8002 }) := by decide

theorem test_V41_22 :
    Runs [] [0xE9, 0x00] { base with a := 0x00, p := 0x14 }
      (fun s => { s with a := 0xFF, p := 0x94, pc := 0x8002 }) := by decide

theorem test_V41_29 :
    Runs [] [0xC9, 0x41] { base with a := 0x40 } (fun s => { s with p := 0x94, pc := 0x8002 }) := by decide

theorem test_V41_30 :
    Runs [] [0xC9, 0x40] { base with a := 0x40 } (fun s => { s with p := 0x17, pc := 0x8002 }) := by decide

theorem test_V41_36 :
    Runs [] [0xE0, 0x05] { base with x := 0x05 } (fun s => { s with p := 0x17, pc := 0x8002 }) := by decide

theorem test_V41_37 :
    Runs [(0x0010, 0x02)] [0xE4, 0x10] { base with x := 0x01 }
      (fun s => { s with p := 0x94, pc := 0x8002 }) := by decide

theorem test_V41_38 :
    Runs [] [0xC0, 0x01] { base with y := 0xFF } (fun s => { s with p := 0x95, pc := 0x8002 }) := by decide

theorem test_V41_39 :
    Runs [(0x0300, 0x00)] [0xCC, 0x00, 0x03] { base with y := 0x00 }
      (fun s => { s with p := 0x17, pc := 0x8003 }) := by decide

theorem test_V41_42 :
    Runs [(0x0010, 0x01)] [0x24, 0x10] { base with a := 0xFF, p := 0xD4 }
      (fun s => { s with p := 0xD4, pc := 0x8002 }) := by decide

theorem test_V41_44 :
    Runs [(0x0300, 0x40)] [0x2C, 0x00, 0x03] { base with a := 0x40 }
      (fun s => { s with p := 0x54, pc := 0x8003 }) := by decide

theorem test_V41_45 :
    Runs [(0x0010, 0x81)] [0x24, 0x10] { base with a := 0x01, cfg := { Config.default with bitNMask := 0x40 } }
      (fun s => { s with p := 0x14, pc := 0x8002 }) := by decide

theorem test_V41_47 :
    Runs [(0x0010, 0xFF)] [0xE6, 0x10] base
      (fun s => preset [(0x0010, 0x00)] { s with p := 0x16, pc := 0x8002 }) := by decide

theorem test_V41_48 :
    Runs [(0x0300, 0x7F)] [0xEE, 0x00, 0x03] base
      (fun s => preset [(0x0300, 0x80)] { s with p := 0x94, pc := 0x8003 }) := by decide

theorem test_V41_49 :
    Runs [(0x0010, 0x00)] [0xC6, 0x10] base
      (fun s => preset [(0x0010, 0xFF)] { s with p := 0x94, pc := 0x8002 }) := by decide

theorem test_V41_50 :
    Runs [(0x0301, 0x01)] [0xDE, 0x00, 0x03] { base with x := 0x01 }
      (fun s => preset [(0x0301, 0x00)] { s with p := 0x16, pc := 0x8003 }) := by decide

theorem test_V41_51 :
    Runs [] [0xE8] { base with x := 0xFF, p := 0x94 }
      (fun s => { s with x := 0x00, p := 0x16, pc := 0x8001 }) := by decide

theorem test_V41_53 :
    Runs [] [0xC8] { base with y := 0xFF } (fun s => { s with y := 0x00, p := 0x16, pc := 0x8001 }) := by decide

theorem test_V41_54 :
    Runs [] [0xCA] { base with x := 0x00 } (fun s => { s with x := 0xFF, p := 0x94, pc := 0x8001 }) := by decide

theorem test_V41_56 :
    Runs [] [0x88] { base with y := 0x80 } (fun s => { s with y := 0x7F, p := 0x14, pc := 0x8001 }) := by decide

/-! #### Shifts and rotates (2.4) -/

theorem test_V42_01 :
    Runs [] [0x0A] { base with a := 0x81 } (fun s => { s with a := 0x02, p := 0x15, pc := 0x8001 }) := by decide

theorem test_V42_04 :
    Runs [(0x0302, 0x55)] [0x1E, 0x00, 0x03] { base with x := 0x02 }
      (fun s => preset [(0x0302, 0xAA)] { s with p := 0x94, pc := 0x8003 }) := by decide

theorem test_V42_05 :
    Runs [] [0x4A] { base with a := 0x01 } (fun s => { s with a := 0x00, p := 0x17, pc := 0x8001 }) := by decide

theorem test_V42_06 :
    Runs [(0x0010, 0x03)] [0x46, 0x10] { base with p := 0x94 }
      (fun s => preset [(0x0010, 0x01)] { s with p := 0x15, pc := 0x8002 }) := by decide

theorem test_V42_08 :
    Runs [] [0x2A] { base with a := 0x40, p := 0x15 }
      (fun s => { s with a := 0x81, p := 0x94, pc := 0x8001 }) := by decide

theorem test_V42_11 :
    Runs [(0x0010, 0xFF)] [0x26, 0x10] { base with p := 0x15 }
      (fun s => preset [(0x0010, 0xFF)] { s with p := 0x95, pc := 0x8002 }) := by decide

theorem test_V42_13 :
    Runs [] [0x6A] { base with a := 0x00, p := 0x15 }
      (fun s => { s with a := 0x80, p := 0x94, pc := 0x8001 }) := by decide

theorem test_V42_14 :
    Runs [(0x0200, 0x02)] [0x6E, 0x00, 0x02] { base with p := 0x15 }
      (fun s => preset [(0x0200, 0x81)] { s with p := 0x94, pc := 0x8003 }) := by decide

/-! #### Stack, flags, no-operation (2.5) -/

theorem test_V43_02 :
    Runs [] [0x48] { base with a := 0x42, sp := 0x00 }
      (fun s => preset [(0x0100, 0x42)] { s with sp := 0xFF, p := 0x14, pc := 0x8001 }) := by decide

theorem test_V43_04 :
    Runs [(0x0100, 0x00)] [0x68] { base with a := 0x55, sp := 0xFF }
      (fun s => { s with a := 0x00, sp := 0x00, p := 0x16, pc := 0x8001 }) := by decide

theorem test_V43_06 :
    Runs [] [0x08] { base with p := 0x81 }
      (fun s => preset [(0x01FD, 0xB1)] { s with sp := 0xFC, p := 0x81, pc := 0x8001 }) := by decide

theorem test_V43_09 :
    Runs [(0x01FD, 0xFF)] [0x28] { base with sp := 0xFC }
      (fun s => { s with sp := 0xFD, p := 0xEF, pc := 0x8001 }) := by decide

theorem test_V43_11 :
    Runs [] [0x18] { base with p := 0x35 } (fun s => { s with p := 0x34, pc := 0x8001 }) := by decide

theorem test_V43_12 : Runs [] [0x38] base (fun s => { s with p := 0x15, pc := 0x8001 }) := by decide

theorem test_V43_13 : Runs [] [0x58] base (fun s => { s with p := 0x10, pc := 0x8001 }) := by decide

theorem test_V43_14 :
    Runs [] [0x78] { base with p := 0x20 } (fun s => { s with p := 0x24, pc := 0x8001 }) := by decide

theorem test_V43_15 :
    Runs [] [0xD8] { base with p := 0x2C } (fun s => { s with p := 0x24, pc := 0x8001 }) := by decide

theorem test_V43_16 :
    Runs [] [0xF8] { base with p := 0x24 } (fun s => { s with p := 0x2C, pc := 0x8001 }) := by decide

theorem test_V43_17 :
    Runs [] [0xB8] { base with p := 0x64 } (fun s => { s with p := 0x24, pc := 0x8001 }) := by decide

theorem test_V43_18 : Runs [] [0xEA] base (fun s => { s with p := 0x14, pc := 0x8001 }) := by decide

/-! #### Branches, jumps, calls (2.6) -/

theorem test_V44_01 : Runs [] [0x90, 0x04] base (fun s => { s with p := 0x14, pc := 0x8006 }) := by decide

theorem test_V44_02 :
    Runs [] [0x90, 0x04] { base with p := 0x15 } (fun s => { s with p := 0x15, pc := 0x8002 }) := by decide

theorem test_V44_03 :
    Runs [] [0xB0, 0xFC] { base with p := 0x15 } (fun s => { s with p := 0x15, pc := 0x7FFE }) := by decide

theorem test_V44_04 :
    Runs [] [0xF0, 0x10] { base with p := 0x16 } (fun s => { s with p := 0x16, pc := 0x8012 }) := by decide

theorem test_V44_07 :
    Runs [] [0x30, 0x7F] { base with p := 0x94 } (fun s => { s with p := 0x94, pc := 0x8081 }) := by decide

theorem test_V44_09 : Runs [] [0x50, 0x02] base (fun s => { s with p := 0x14, pc := 0x8004 }) := by decide

theorem test_V44_10 :
    Runs [] [0x70, 0xFE] { base with p := 0x54 } (fun s => { s with p := 0x54, pc := 0x8000 }) := by decide

theorem test_V44_12 : Runs [] [0xD0, 0xFF] base (fun s => { s with p := 0x14, pc := 0x8002 }) := by decide

theorem test_V44_13 :
    Runs [] [0xD0, 0xFF] { base with cfg := { Config.default with pcAlteredTest := .assignment } }
      (fun s => { s with p := 0x14, pc := 0x8001 }) := by decide

theorem test_V44_14 :
    Runs [] [0x10, 0x80] { base with pc := 0x0000 } (fun s => { s with p := 0x14, pc := 0xFF82 }) := by decide

theorem test_V44_18 : Runs [] [0x4C, 0x01, 0x80] base (fun s => { s with p := 0x14, pc := 0x8003 }) := by decide

theorem test_V44_19 :
    Runs [] [0x4C, 0x01, 0x80] { base with cfg := { Config.default with pcAlteredTest := .assignment } }
      (fun s => { s with p := 0x14, pc := 0x8001 }) := by decide

theorem test_V44_21 :
    Runs [(0x02FF, 0x34), (0x0200, 0x12), (0x0300, 0x56)] [0x6C, 0xFF, 0x02] base
      (fun s => { s with p := 0x14, pc := 0x1234 }) := by decide

theorem test_V44_22 :
    Runs [(0xFFFF, 0x78), (0xFF00, 0x56), (0x0000, 0x99)] [0x6C, 0xFF, 0xFF] base
      (fun s => { s with p := 0x14, pc := 0x5678 }) := by decide

theorem test_V44_24 :
    Runs [] [0x20, 0x00, 0x90] { base with sp := 0x00 }
      (fun s => preset [(0x0100, 0x80), (0x01FF, 0x02)] { s with sp := 0xFE, p := 0x14, pc := 0x9000 }) := by decide

theorem test_V44_27 :
    Runs [(0x01FC, 0xFF), (0x01FD, 0xFF)] [0x60] { base with sp := 0xFB }
      (fun s => { s with sp := 0xFD, p := 0x14, pc := 0x0000 }) := by decide

/-! #### BRK and RTI (2.7) -/

theorem test_V45_02 :
    Halts [] [0x00] { base with p := 0x84 }
      (fun s => preset [(0x01FD, 0xB4)] { s with sp := 0xFC, p := 0x84, pc := 0x8001 }) := by decide

theorem test_V45_06 :
    Runs [(0x01FF, 0x10), (0x0100, 0x00), (0x0101, 0x90)] [0x40] { base with sp := 0xFE }
      (fun s => { s with sp := 0x01, p := 0x20, pc := 0x9000 }) := by decide

/-! #### Unofficial opcodes and bytes without an entry (2.8) -/

theorem test_V46_01 : Runs [] [0x1A] base (fun s => { s with p := 0x14, pc := 0x8001 }) := by decide

theorem test_V46_03 : Runs [] [0x0C, 0x34, 0x12] base (fun s => { s with p := 0x14, pc := 0x8003 }) := by decide

theorem test_V46_04 : IsFatal [] [0x0C, 0x00, 0x20] base (.ppuAccess 0x2000) := by decide

theorem test_V46_06 :
    Runs [(0x0010, 0xC0)] [0x07, 0x10] { base with a := 0x01 }
      (fun s => preset [(0x0010, 0x80)] { s with a := 0x81, p := 0x95, pc := 0x8002 }) := by decide

theorem test_V46_07 :
    Runs [(0x0010, 0x40)] [0x27, 0x10] { base with a := 0xFF, p := 0x15 }
      (fun s => preset [(0x0010, 0x81)] { s with a := 0x81, p := 0x94, pc := 0x8002 }) := by decide

theorem test_V46_08 :
    Runs [(0x0010, 0x03)] [0x47, 0x10] { base with a := 0x01 }
      (fun s => preset [(0x0010, 0x01)] { s with a := 0x00, p := 0x17, pc := 0x8002 }) := by decide

theorem test_V46_09 :
    Runs [(0x0010, 0x03)] [0x67, 0x10] { base with a := 0x10 }
      (fun s => preset [(0x0010, 0x01)] { s with a := 0x12, p := 0x14, pc := 0x8002 }) := by decide

theorem test_V46_11 :
    Runs [] [0x87, 0x10] { base with a := 0xF0, x := 0x3C }
      (fun s => preset [(0x0010, 0x30)] { s with p := 0x14, pc := 0x8002 }) := by decide

theorem test_V46_12 :
    Runs [] [0x97, 0x10] { base with a := 0xFF, x := 0x0F, y := 0x01 }
      (fun s => preset [(0x0011, 0x0F)] { s with p := 0x14, pc := 0x8002 }) := by decide

theorem test_V46_13 :
    Runs [(0x0010, 0x80)] [0xA7, 0x10] base
      (fun s => { s with a := 0x80, x := 0x80, p := 0x94, pc := 0x8002 }) := by decide

theorem test_V46_14 :
    Runs [(0x0301, 0x00)] [0xBF, 0x00, 0x03] { base with a := 0x11, x := 0x22, y := 0x01 }
      (fun s => { s with a := 0x00, x := 0x00, p := 0x16, pc := 0x8003 }) := by decide

theorem test_V46_15 :
    Runs [(0x0010, 0x06)] [0xC7, 0x10] { base with a := 0x05 }
      (fun s => preset [(0x0010, 0x05)] { s with p := 0x17, pc := 0x8002 }) := by decide

theorem test_V46_17 :
    Runs [(0x0010, 0x00)] [0xE7, 0x10] { base with a := 0x10, p := 0x15 }
      (fun s => preset [(0x0010, 0x01)] { s with a := 0x0F, p := 0x15, pc := 0x8002 }) := by decide

theorem test_V46_19 :
    Runs [] [0x0B, 0x80] { base with a := 0xF0 } (fun s => { s with a := 0x80, p := 0x95, pc := 0x8002 }) := by decide

theorem test_V46_20 :
    Runs [] [0x2B, 0x7F] { base with a := 0xF0, p := 0x15 }
      (fun s => { s with a := 0x70, p := 0x14, pc := 0x8002 }) := by decide

theorem test_V46_21 :
    Runs [] [0x4B, 0x03] { base with a := 0xFF } (fun s => { s with a := 0x01, p := 0x15, pc := 0x8002 }) := by decide

theorem test_V46_23 :
    Runs [] [0x6B, 0xFF] { base with a := 0x80 } (fun s => { s with a := 0x40, p := 0x55, pc := 0x8002 }) := by decide

theorem test_V46_25 :
    Runs [] [0xCB, 0x31] { base with a := 0xF0, x := 0x3C }
      (fun s => { s with x := 0xFF, p := 0x94, pc := 0x8002 }) := by decide

theorem test_V46_27 : IsFatal [] [0x02] base (.unhandledOpcode 0x02 0x8000) := by decide

theorem test_V46_29 :
    IsFatal [] [0x9C, 0x00, 0x02] { base with pc := 0x9000 } (.unhandledOpcode 0x9C 0x9000) := by decide

/-! ### The source's worked examples outside `step()` (spec/95_test_vectors.md, E3, E4, E6, E7, and V70-02) -/

theorem test_E3_checkedAdd : IntFamily.u8.checkedAdd 255 1 = .fault .overflow ∧ IntFamily.u8.checkedAdd 254 1 = .next 255 :=
  ⟨rfl, rfl⟩

theorem test_E4_negation : negI8 (-128) = -128 ∧ negI8 (-127) = 127 ∧ negI8 127 = -127 := by decide

theorem test_E6_push16_pull8 :
    push16 0xFFFC base = .ok (preset [(0x01FD, 0xFF), (0x01FC, 0xFC)] { base with sp := 0xFB }) ∧
    (pull8 (preset [(0x01FD, 0xFF), (0x01FC, 0xFC)] { base with sp := 0xFB })).map Prod.fst = .ok 0xFC :=
  ⟨rfl, rfl⟩

theorem test_E7_attach : attach [⟨0x0000, 0xFFFF, .ram⟩] ⟨0x4020, 0xFFFF, .null⟩ = .fault .regionConflict := rfl

theorem test_V70_02 :
    let s := preset [(0xFFFC, 0x34), (0xFFFD, 0x12)]
      { base with a := 0xAA, x := 0xBB, y := 0xCC, sp := 0x10, p := 0xFF, pc := 0x4444 }
    resetCpu s = .next { s with a := 0x00, x := 0x00, y := 0x00, sp := 0xFD, p := 0x14, pc := 0x1234 } := rfl

/-- The host's two entry points: `STA $1234` as a table word, and run as the first instruction after reset. -/
theorem test_tableWord :
    decodeTableWord 24 0x12348D = some (.staAbs 0x1234) ∧ decodeTableWord 8 0xA9 = some (.ldaImm 0x00) ∧
      fetch (State.reset.withFetchWord 24 0x12348D) = .ok (.staAbs 0x1234) := ⟨rfl, rfl, rfl⟩

/-- OPTABLE by its differences from spec/opcode_table.json (R10, D10): a byte given another record, and one left out. -/
theorem test_opTable :
    let cfg := { Config.default with opTable := [(0x02, some 0xEA), (0xA9, none)] };
    step (start [] [0x02] { base with cfg := cfg }) = .next { start [] [0x02] { base with cfg := cfg } with pc := 0x8001 } ∧
    step (start [] [0xA9, 0x01] { base with cfg := cfg }) = .fault (.unhandledOpcode 0xA9 0x8000) := ⟨rfl, rfl⟩

/-- R64: the one-page program ROM is read by its formula below 0x8000 as well: `(0x7FFF - 0x8000) mod 0x4000 = 0x3FFF`. -/
theorem test_romBelow8000 :
    romRead .one [(0x3FFF, 0x5A)] 0x7FFF = 0x5A ∧ romRead .one [(0x3FFF, 0x5A)] 0xBFFF = 0x5A ∧
      romRead .two [(0x7FFF, 0x5A)] 0xFFFF = 0x5A := by decide

/-! ### Witnesses: states and operands that meet the hypotheses of each statement that has some, one for each clause -/

/-- RAM at every address, the PPU window included. -/
def allRam : State := withRamEverywhere base

/-- A one-page ROM device at every address outside the PPU window: every write there is fatal. -/
def romAll : State := { base with cfg := { Config.default with regions := [⟨0x0000, 0xFFFF, .rom .one []⟩] } }

/-- RAM below 0x8000 and a one-page ROM above, its first byte 0x8D (STA absolute). -/
def romHigh : State :=
  { base with cfg := { Config.default with regions := [⟨0x0000, 0x7FFF, .ram⟩, ⟨0x8000, 0xFFFF, .rom .one
    [(0x0000, 0x8D), (0x0002, 0x80)]⟩] } }

/-- The hypotheses of a reading form: its operand can be read in one state, and is fatal in another. -/
def ReadsSomewhere (i : Instr) (m : Mnemonic) : Prop :=
  i.mnemonic = m ∧ (∃ v, operandValue i.operand allRam = .ok v) ∧ ∃ f, operandValue i.operand base = .error f

/-- The hypotheses of a storing form. -/
def StoresSomewhere (i : Instr) (m : Mnemonic) (value : State → Byte) : Prop :=
  i.mnemonic = m ∧
    (∃ a t, effectiveAddress i.operand allRam = .ok a ∧ memWrite allRam a (value allRam) = .ok t) ∧
    ∃ f, (do let a ← effectiveAddress i.operand base; memWrite base a (value base)) = .error f

/-- The hypotheses of a read-modify-write form. -/
def ModifiesSomewhere (i : Instr) (m : Mnemonic) (result : Byte → State → Byte) : Prop :=
  i.mnemonic = m ∧
    (∃ a v t, effectiveAddress i.operand allRam = .ok a ∧ memRead allRam a = .ok v ∧
      memWrite allRam a (result v allRam) = .ok t) ∧
    ∃ f, (do
      let a ← effectiveAddress i.operand base
      let v ← memRead base a
      memWrite base a (result v base)) = .error f

theorem witness_EncodeUndoesDecode : decode [0xFF, 0x01, 0x02, 0x99] = .ok (.isbAbx 0x0201, [0x99]) := rfl

theorem witness_TableLengthFollowsFormat : (∃ e, (Instr.staAbs 0x1234).entry = some e) ∧ ∃ e, Instr.brk.entry = some e :=
  ⟨⟨_, rfl⟩, ⟨_, rfl⟩⟩

/-- An instruction that straddles 0xFFFF and 0x0000; one whose first operand byte is the first of the PPU window, one
whose second is, and a JSR there, whose bytes are not read first; a `PC` in the window. -/
theorem witness_StepRunsDecodedInstruction :
    (let s := start [] [0xA9, 0x07] { base with pc := 0xFFFF };
      memRead s s.pc = .ok 0xA9 ∧ tableByte s.cfg 0xA9 = some 0xA9 ∧ decode [0xA9, 0x07, 0x00] = .ok (.ldaImm 0x07, [0x00]) ∧
      firstReads (.ldaImm 0x07) s = 1 ∧ memRead s (s.pc + 1) = .ok 0x07) ∧
    (let s := start [] [0xA9] { base with pc := 0x1FFF };
      memRead s s.pc = .ok 0xA9 ∧ firstReads (.ldaImm 0x00) s = 1 ∧ memRead s (s.pc + 1) = .error (.ppuAccess 0x2000)) ∧
    (let s := start [] [0xAD, 0x07] { base with pc := 0x1FFE };
      memRead s s.pc = .ok 0xAD ∧ decode [0xAD, 0x07, 0x00] = .ok (.ldaAbs 0x0007, []) ∧ firstReads (.ldaAbs 0x0007) s = 2 ∧
      memRead s (s.pc + 1) = .ok 0x07 ∧ memRead s (s.pc + 2) = .error (.ppuAccess 0x2000)) ∧
    (let s := start [] [0x20] { base with pc := 0x1FFF };
      memRead s s.pc = .ok 0x20 ∧ decode [0x20, 0x00, 0x00] = .ok (.jsr 0x0000, []) ∧ firstReads (.jsr 0x0000) s = 0) ∧
    (Instr.ldaImm 0x07).WellFormed ∧ (Instr.ldaAbs 0x0007).WellFormed ∧ (Instr.jsr 0x0000).WellFormed ∧
    (let s := { base with pc := 0x3FFF };
      memRead s s.pc = .error (.ppuAccess 0x3FFF)) :=
  ⟨⟨rfl, rfl, rfl, rfl, rfl⟩, ⟨rfl, rfl, rfl⟩, ⟨rfl, rfl, rfl, rfl, rfl⟩, ⟨rfl, rfl, rfl⟩, by decide, by decide, by decide,
    rfl⟩

/-- A byte the default table leaves out, and one a difference takes out. -/
theorem witness_NoEntryIsFatal :
    ¬ Instr.jam02.WellFormed ∧
    (let s := start [] [0x9C] base;
      s.cfg.opTable = [] ∧ memRead s s.pc = .ok 0x9C ∧ tableEntry s.cfg 0x9C = none) ∧
    (let s := start [] [0xA9] { base with cfg := { base.cfg with opTable := [(0xA9, none), (0x02, some 0xEA)] } };
      memRead s s.pc = .ok 0xA9 ∧ tableEntry s.cfg 0xA9 = none) :=
  ⟨by decide, ⟨rfl, rfl, rfl⟩, rfl, rfl⟩

theorem witness_HaltExactlyOnBreak :
    (∃ t, stepResult base = .halt t) ∧ memRead base base.pc = .ok 0x00 ∧ ∃ t, step base = .next t :=
  ⟨⟨_, rfl⟩, rfl, _, rfl⟩

/-- A step that raises each of the three conditions. -/
theorem witness_StepRaisesOnlyItsConditions :
    step (start [] [0x02] base) = .fault (.unhandledOpcode 0x02 0x8000) ∧
    step { base with pc := 0x2000 } = .fault (.ppuAccess 0x2000) ∧
    step romHigh = .fault (.romWrite 0x8000) :=
  ⟨rfl, rfl, rfl⟩

theorem allRam_route (a : Addr) : ∃ x, route allRam.cfg a = .device .ram x := by
  have h (x : Addr) : regionRoute [fullRam] x = .device .ram x := by
    have h0 : fullRam.first ≤ x := by show (0x0000 : Addr) ≤ x; bv_omega
    have h1 : x ≤ fullRam.last := by show x ≤ (0xFFFF : Addr); bv_omega
    have hc : Region.covers fullRam x = true := by simp [Region.covers, h0, h1]
    simp only [regionRoute, List.find?, hc]
    rfl
  unfold route
  split
  · exact ⟨_, h _⟩
  · split
    · exact ⟨_, rfl⟩
    · exact ⟨_, h _⟩

theorem witness_EveryInstructionCompletesInRam :
    (∀ a, ∃ x, route allRam.cfg a = .device .ram x) ∧ (Instr.isbIzy 0xFF).WellFormed :=
  ⟨allRam_route, by decide⟩

theorem witness_PlainInstructionsAdvancePc :
    (Instr.brk).mnemonic ∉ transfers ∧ (∃ t, exec .brk base = .next t) ∧
    (Instr.isbAbx 0x0010).mnemonic ∉ transfers ∧ ∃ t, exec (.isbAbx 0x0010) base = .next t :=
  ⟨by decide, ⟨_, rfl⟩, by decide, _, rfl⟩

/-- A transfer to its own second byte, and one elsewhere. -/
theorem witness_PcTestsAgreeOffTheHazard :
    (∃ t, exec (.jmpAbs 0x8001) { base with cfg := { base.cfg with pcAlteredTest := .assignment } } = .next t ∧
      t.pc = base.pc + 1) ∧
    ∃ t, exec (.jmpAbs 0x9000) { base with cfg := { base.cfg with pcAlteredTest := .assignment } } = .next t ∧
      t.pc ≠ base.pc + 1 :=
  ⟨⟨_, rfl, rfl⟩, _, rfl, by decide⟩

/-- The offset byte is the first byte of the PPU window, and cannot be read. -/
theorem witness_BranchNotTakenReadsNoOffset :
    let s := start [] [0x90] { base with pc := 0x1FFF, p := 0x15 };
    ((0x90 : Byte), Flag.c, false) ∈ [((0x90 : Byte), Flag.c, false)] ∧ memRead s s.pc = .ok 0x90 ∧
      tableByte s.cfg 0x90 = some 0x90 ∧ hasFlag s.p .c ≠ false ∧ memRead s (s.pc + 1) = .error (.ppuAccess 0x2000) :=
  ⟨by decide, rfl, rfl, by decide, rfl⟩

/-- The operands R90 is said for, at an indexed and an indirect mode. -/
theorem witness_DirectModesGiveAddress :
    (∀ v, Operand.abx 0x1FFF ≠ .imm v) ∧ Operand.abx 0x1FFF ≠ .noneAddressing ∧ (∀ v, Operand.izy 0xFF ≠ .imm v) ∧
      Operand.izy 0xFF ≠ .noneAddressing :=
  ⟨nofun, nofun, nofun, nofun⟩

theorem witness_LoadsSetRegisterZN :
    ReadsSomewhere (.ldaAbs 0x2000) .LDA ∧ ReadsSomewhere (.ldxAbs 0x3FFF) .LDX ∧ ReadsSomewhere (.ldyAbs 0x2000) .LDY :=
  ⟨⟨rfl, ⟨_, rfl⟩, _, rfl⟩, ⟨rfl, ⟨_, rfl⟩, _, rfl⟩, ⟨rfl, ⟨_, rfl⟩, _, rfl⟩⟩

theorem witness_LogicSetsAccumulatorZN :
    ReadsSomewhere (.andAbs 0x2000) .AND ∧ ReadsSomewhere (.oraAbs 0x3FFF) .ORA ∧ ReadsSomewhere (.eorAbs 0x2000) .EOR :=
  ⟨⟨rfl, ⟨_, rfl⟩, _, rfl⟩, ⟨rfl, ⟨_, rfl⟩, _, rfl⟩, ⟨rfl, ⟨_, rfl⟩, _, rfl⟩⟩

theorem witness_AddSubtractWithCarry :
    ReadsSomewhere (.adcAbs 0x2000) .ADC ∧ ReadsSomewhere (.sbcAbs 0x3FFF) .SBC ∧ (Instr.sbcImmEB 0x80).mnemonic = .SBC :=
  ⟨⟨rfl, ⟨_, rfl⟩, _, rfl⟩, ⟨rfl, ⟨_, rfl⟩, _, rfl⟩, rfl⟩

theorem witness_ComparesSetCZN :
    ReadsSomewhere (.cmpAbs 0x2000) .CMP ∧ ReadsSomewhere (.cpxAbs 0x3FFF) .CPX ∧ ReadsSomewhere (.cpyAbs 0x2000) .CPY :=
  ⟨⟨rfl, ⟨_, rfl⟩, _, rfl⟩, ⟨rfl, ⟨_, rfl⟩, _, rfl⟩, ⟨rfl, ⟨_, rfl⟩, _, rfl⟩⟩

theorem witness_BitAssignsZAndOnlySetsNV : ReadsSomewhere (.bitAbs 0x2000) .BIT := ⟨rfl, ⟨_, rfl⟩, _, rfl⟩

theorem witness_NopsOnlyAdvance :
    ReadsSomewhere (.nopAbs 0x2000) .NOP ∧ (Instr.nopAbs 0x2000).operand ≠ .noneAddressing ∧
      Instr.nop.mnemonic = .NOP ∧ Instr.nop.operand = .noneAddressing :=
  ⟨⟨rfl, ⟨_, rfl⟩, _, rfl⟩, by decide, rfl, rfl⟩

theorem witness_StoresWriteRegister :
    StoresSomewhere (.staAbs 0x2000) .STA (fun s => s.a) ∧ StoresSomewhere (.stxAbs 0x3FFF) .STX (fun s => s.x) ∧
      StoresSomewhere (.styAbs 0x2000) .STY (fun s => s.y) :=
  ⟨⟨rfl, ⟨_, _, rfl, rfl⟩, _, rfl⟩, ⟨rfl, ⟨_, _, rfl, rfl⟩, _, rfl⟩, ⟨rfl, ⟨_, _, rfl, rfl⟩, _, rfl⟩⟩

theorem witness_SaxStoresLaxLoadsBoth :
    StoresSomewhere (.saxAbs 0x2000) .SAX (fun s => s.a &&& s.x) ∧ ReadsSomewhere (.laxAbs 0x3FFF) .LAX :=
  ⟨⟨rfl, ⟨_, _, rfl, rfl⟩, _, rfl⟩, ⟨rfl, ⟨_, rfl⟩, _, rfl⟩⟩

theorem witness_IncDecWrapAndSetZN :
    ModifiesSomewhere (.incAbs 0x2000) .INC (fun v _ => v + 1) ∧ ModifiesSomewhere (.decAbs 0x3FFF) .DEC (fun v _ => v - 1) ∧
      Instr.inx.mnemonic = .INX ∧ Instr.iny.mnemonic = .INY ∧ Instr.dex.mnemonic = .DEX ∧ Instr.dey.mnemonic = .DEY :=
  ⟨⟨rfl, ⟨_, _, _, rfl, rfl, rfl⟩, _, rfl⟩, ⟨rfl, ⟨_, _, _, rfl, rfl, rfl⟩, _, rfl⟩, rfl, rfl, rfl, rfl⟩

theorem witness_ShiftsMoveBitThroughCarry :
    ModifiesSomewhere (.aslAbs 0x2000) .ASL (fun v _ => shiftedLeft v 0) ∧
    ModifiesSomewhere (.lsrAbs 0x3FFF) .LSR (fun v _ => shiftedRight v 0) ∧
    ModifiesSomewhere (.rolAbs 0x2000) .ROL (fun v s => shiftedLeft v (carry s)) ∧
    ModifiesSomewhere (.rorAbs 0x3FFF) .ROR (fun v s => shiftedRight v (carry s)) ∧
    (Instr.rorAbs 0x3FFF).operand ≠ .noneAddressing ∧ Instr.rorAcc.mnemonic = .ROR ∧
      Instr.rorAcc.operand = .noneAddressing :=
  ⟨⟨rfl, ⟨_, _, _, rfl, rfl, rfl⟩, _, rfl⟩, ⟨rfl, ⟨_, _, _, rfl, rfl, rfl⟩, _, rfl⟩,
    ⟨rfl, ⟨_, _, _, rfl, rfl, rfl⟩, _, rfl⟩, ⟨rfl, ⟨_, _, _, rfl, rfl, rfl⟩, _, rfl⟩, by decide, rfl, rfl⟩

theorem witness_ShiftLogicCombinesMemoryIntoA :
    ModifiesSomewhere (.sloAbs 0x2000) .SLO (fun v _ => shiftedLeft v 0) ∧
    ModifiesSomewhere (.rlaAbs 0x3FFF) .RLA (fun v s => shiftedLeft v (carry s)) ∧
    ModifiesSomewhere (.sreAbs 0x2000) .SRE (fun v _ => shiftedRight v 0) :=
  ⟨⟨rfl, ⟨_, _, _, rfl, rfl, rfl⟩, _, rfl⟩, ⟨rfl, ⟨_, _, _, rfl, rfl, rfl⟩, _, rfl⟩,
    ⟨rfl, ⟨_, _, _, rfl, rfl, rfl⟩, _, rfl⟩⟩

theorem witness_ModifyThenArithmetic :
    ModifiesSomewhere (.rraAbs 0x2000) .RRA (fun v s => shiftedRight v (carry s)) ∧
    ModifiesSomewhere (.dcpAbs 0x3FFF) .DCP (fun v _ => v - 1) ∧
    ModifiesSomewhere (.isbAbs 0x2000) .ISB (fun v _ => v + 1) :=
  ⟨⟨rfl, ⟨_, _, _, rfl, rfl, rfl⟩, _, rfl⟩, ⟨rfl, ⟨_, _, _, rfl, rfl, rfl⟩, _, rfl⟩,
    ⟨rfl, ⟨_, _, _, rfl, rfl, rfl⟩, _, rfl⟩⟩

theorem witness_ImmediateUnofficialsFollowRules :
    (Instr.ancImm2B 0xFF).mnemonic = .ANC ∧ (Instr.alrImm 0xFF).mnemonic = .ALR ∧ (Instr.arrImm 0xFF).mnemonic = .ARR ∧
      (Instr.axsImm 0xFF).mnemonic = .AXS :=
  ⟨rfl, rfl, rfl, rfl⟩

theorem witness_TransfersCopyRegister :
    Instr.tax.mnemonic = .TAX ∧ Instr.tay.mnemonic = .TAY ∧ Instr.txa.mnemonic = .TXA ∧ Instr.tya.mnemonic = .TYA ∧
      Instr.tsx.mnemonic = .TSX ∧ Instr.txs.mnemonic = .TXS :=
  ⟨rfl, rfl, rfl, rfl, rfl, rfl⟩

theorem witness_FlagInstructionsWriteOneFlag :
    Instr.clc.mnemonic = .CLC ∧ Instr.sec.mnemonic = .SEC ∧ Instr.cli.mnemonic = .CLI ∧ Instr.sei.mnemonic = .SEI ∧
      Instr.cld.mnemonic = .CLD ∧ Instr.sed.mnemonic = .SED ∧ Instr.clv.mnemonic = .CLV :=
  ⟨rfl, rfl, rfl, rfl, rfl, rfl, rfl⟩

/-- At `SP = 0x00`, where the push wraps; and where the stack page is ROM. -/
theorem witness_PushesWriteStackByte :
    (let s := { base with sp := 0x00 };
      (∃ t, memWrite s (stackAt s.sp) s.a = .ok t) ∧ ∃ t, memWrite s (stackAt s.sp) (s.p ||| 0x30) = .ok t) ∧
    (∃ f, memWrite romAll (stackAt romAll.sp) romAll.a = .error f) ∧
    ∃ f, memWrite romAll (stackAt romAll.sp) (romAll.p ||| 0x30) = .error f :=
  ⟨⟨⟨_, rfl⟩, _, rfl⟩, ⟨_, rfl⟩, _, rfl⟩

theorem witness_FlagOperationsTouchOneBit :
    let l := [(Flag.c, 0), (Flag.z, 1), (.i, 2), (.d, 3), (.b, 4), (.u, 5), (.v, 6), (.n, 7)]
    (Flag.c, 0) ∈ l ∧ (Flag.n, 7) ∈ l ∧ 0 < 8 ∧ 0 ≠ 7 := by decide

/-- A pointer at the end of a page, the last page below the PPU window and the first above it, and a pointer in it. -/
theorem witness_JumpsGoToTarget :
    (∃ lo, memRead base 0x02FF = .ok lo) ∧ (∃ lo, memRead base 0x1FFF = .ok lo) ∧ (∃ lo, memRead base 0x4000 = .ok lo) ∧
      ∃ f, memRead base 0x30FF = .error f :=
  ⟨⟨_, rfl⟩, ⟨_, rfl⟩, ⟨_, rfl⟩, _, rfl⟩

/-- RAM below 0x0180 and ROM from there: half the stack page can be written. -/
def romHalfStack : State :=
  { base with sp := 0x00, cfg := { Config.default with regions := [⟨0x0000, 0x017F, .ram⟩, ⟨0x0180, 0xFFFF, .rom .one []⟩] } }

/-- At `SP = 0x00`: the word is split across the ends of the stack page; then each of the four accesses fatal: the first
push, the second, the read of the low byte, that of the high byte. -/
theorem witness_JsrPushesThenReadsTarget :
    (let s := start [] [0x20, 0x00, 0x90] { base with sp := 0x00 };
      ∃ t1 t2 lo hi, memWrite s (stackAt s.sp) (highByte (s.pc + 2)) = .ok t1 ∧
        memWrite t1 (stackAt (s.sp - 1)) (lowByte (s.pc + 2)) = .ok t2 ∧ memRead t2 (s.pc + 1) = .ok lo ∧
        memRead t2 (s.pc + 2) = .ok hi) ∧
    (∃ f, memWrite romAll (stackAt romAll.sp) (highByte (romAll.pc + 2)) = .error f) ∧
    (let s := romHalfStack;
      ∃ t1 f, memWrite s (stackAt s.sp) (highByte (s.pc + 2)) = .ok t1 ∧
        memWrite t1 (stackAt (s.sp - 1)) (lowByte (s.pc + 2)) = .error f) ∧
    (let s := { base with pc := 0x1FFF };
      ∃ t1 t2 f, memWrite s (stackAt s.sp) (highByte (s.pc + 2)) = .ok t1 ∧
        memWrite t1 (stackAt (s.sp - 1)) (lowByte (s.pc + 2)) = .ok t2 ∧ memRead t2 (s.pc + 1) = .error f) ∧
    (let s := { base with pc := 0x1FFE };
      ∃ t1 t2 lo f, memWrite s (stackAt s.sp) (highByte (s.pc + 2)) = .ok t1 ∧
        memWrite t1 (stackAt (s.sp - 1)) (lowByte (s.pc + 2)) = .ok t2 ∧ memRead t2 (s.pc + 1) = .ok lo ∧
        memRead t2 (s.pc + 2) = .error f) :=
  ⟨⟨_, _, _, _, rfl, rfl, rfl, rfl⟩, ⟨_, rfl⟩, ⟨_, _, rfl, rfl⟩, ⟨_, _, _, rfl, rfl, rfl⟩, _, _, _, _, rfl, rfl, rfl, rfl⟩

theorem witness_RtsUndoesJsr :
    let s := { base with sp := 0x00 };
    RamBehindStack s.cfg ∧ Memory.wf s.mem = true ∧ ∃ t, exec (.jsr 0x9000) s = .next t :=
  ⟨by unfold RamBehindStack; decide, rfl, _, rfl⟩

theorem witness_PullUndoesPush : RamBehindStack base.cfg ∧ Memory.wf base.mem = true :=
  ⟨by unfold RamBehindStack; decide, rfl⟩

theorem witness_BrkPushesStatusOnly :
    (let s := { base with sp := 0x00 };
      ∃ t, memWrite s (stackAt s.sp) (s.p ||| 0x30) = .ok t) ∧
    ∃ f, memWrite romAll (stackAt romAll.sp) (romAll.p ||| 0x30) = .error f :=
  ⟨⟨_, rfl⟩, _, rfl⟩

theorem witness_FlagsChangeOnlyByTheirWriters :
    (∃ t, exec (.ldaImm 0x00) base = .next t) ∧ (Instr.ldaImm 0x00).mnemonic ∉ flagWriters .c :=
  ⟨⟨_, rfl⟩, by decide⟩

theorem witness_RegistersChangeOnlyByTheirWriters :
    (∃ t, exec (.ldaImm 0x00) base = .next t) ∧ (Instr.ldaImm 0x00).mnemonic ∉ regWriters .x :=
  ⟨⟨_, rfl⟩, by decide⟩

/-- A store with an address of another cell beside it, a read-modify-write, a call, and an instruction that stores
nothing. -/
theorem witness_MemoryChangesOnlyWhereStored :
    (∃ t, exec (.staAbs 0x0810) base = .next t) ∧ stored (.staAbs 0x0810) base = [(0x0810, 0x00)] ∧
      ¬ sameCell base.cfg 0x0810 0x1811 ∧ stored (.decAbs 0x0810) base = [(0x0810, 0xFF)] ∧
      stored (.jsr 0x9000) base = [(0x01FD, 0x80), (0x01FC, 0x02)] ∧ (∃ t, exec .tax base = .next t) ∧
      stored .tax base = [] :=
  ⟨⟨_, rfl⟩, rfl, by unfold sameCell; decide, rfl, rfl, ⟨_, rfl⟩, rfl⟩

/-- A mirror address of the cell written, and an address of another cell. -/
theorem witness_ReadAfterWrite :
    Memory.wf base.mem = true ∧ (∃ t, memWrite base 0x0810 0x5A = .ok t) ∧
      route base.cfg 0x0810 = .device .ram 0x0010 ∧ sameCell base.cfg 0x0810 0x1810 ∧
      ¬ sameCell base.cfg 0x0810 0x0811 :=
  ⟨rfl, ⟨_, rfl⟩, rfl, rfl, by unfold sameCell; decide⟩

theorem witness_WindowsMirror :
    ((0x07FF : Addr) ≤ 0x1FFF ∧ (0x1FFF : Addr) ≤ 0x1FFF ∧
      (0x07FF : Addr).toNat % 0x0800 = (0x1FFF : Addr).toNat % 0x0800) ∧
    ((0x2000 : Addr) ≤ 0x2007 ∧ (0x2007 : Addr) ≤ 0x3FFF ∧ (0x2000 : Addr) ≤ 0x3FFF ∧ (0x3FFF : Addr) ≤ 0x3FFF ∧
      (0x2007 : Addr).toNat % 8 = (0x3FFF : Addr).toNat % 8 ∧ allRam.cfg.ppuDevice ≠ none) := by decide

/-- A null device, attached before RAM at every address. -/
def nullRegion : Region := ⟨0x4020, 0x7FFF, .null⟩

/-- The null device does not cover the address, and the RAM behind it does. -/
def PastNull (a : Addr) : Prop :=
  ¬ (nullRegion.first ≤ lookedUp a ∧ lookedUp a ≤ nullRegion.last) ∧ fullRam.first ≤ lookedUp a ∧
    lookedUp a ≤ fullRam.last

/-- The last address of the RAM window and the first above the PPU window, with nothing attached; the null device at its
first and last addresses, and the RAM behind it beside them and at a mirror address. -/
theorem witness_SoftMissReadsZero :
    (((0x1FFF : Addr) < 0x2000 ∨ 0x3FFF < (0x1FFF : Addr)) ∧ ((0x4000 : Addr) < 0x2000 ∨ 0x3FFF < (0x4000 : Addr))) ∧
    (∀ r ∈ ([] : List Region), ¬ (r.first ≤ lookedUp 0x1FFF ∧ lookedUp 0x1FFF ≤ r.last)) ∧
    ([nullRegion, fullRam] = [] ++ nullRegion :: [fullRam] ∧ nullRegion.first ≤ lookedUp 0x4020 ∧
      lookedUp 0x7FFF ≤ nullRegion.last) ∧
    [nullRegion, fullRam] = [nullRegion] ++ fullRam :: [] ∧ PastNull 0x401F ∧ PastNull 0x8000 ∧ PastNull 0x1FFF :=
  ⟨by decide, nofun, ⟨rfl, by decide, by decide⟩, rfl, by unfold PastNull; decide⟩

theorem witness_PpuWindowIsFatal :
    (0x2000 : Addr) ≤ 0x2000 ∧ (0x3FFF : Addr) ≤ 0x3FFF ∧ base.cfg.ppuDevice = none ∧
      { base with pc := 0x3FFF }.pc = 0x3FFF ∧ allRam.cfg.ppuDevice = some .ram := by decide

/-- One page from 0x0000 to 0xFFFF, and two pages at 0x8000 and at 0x7FFF. -/
theorem witness_RomReadsAndRefusesWrites :
    route romAll.cfg 0x4000 = .device (.rom .one []) 0x4000 ∧ route romAll.cfg 0xFFFF = .device (.rom .one []) 0xFFFF ∧
    (let cfg := { Config.default with regions := [⟨0x4000, 0xFFFF, .rom .two []⟩] };
      route cfg 0x8000 = .device (.rom .two []) 0x8000 ∧ (0x8000 : Addr) ≤ 0x8000 ∧
        route cfg 0x7FFF = .device (.rom .two []) 0x7FFF) := by decide

/-- At 0xFFFF, where the second address wraps. -/
theorem witness_WideAccessesAreLittleEndian :
    (∃ lo hi, memRead base 0xFFFF = .ok lo ∧ memRead base (BitVec.ofNat 16 ((0xFFFF : Addr).toNat + 1)) = .ok hi) ∧
      ∃ t, memWrite base 0xFFFF (BitVec.ofNat 8 (0x1234 : Addr).toNat) = .ok t :=
  ⟨⟨_, _, rfl, rfl⟩, _, rfl⟩

/-- The spec's example (95_test_vectors.md E7), a region with start above end, and a region beside the attached one. -/
theorem witness_AttachChecksEnds :
    (let r : Region := ⟨0x4020, 0xFFFF, .ram⟩;
      r.first ≤ r.last ∧ ∃ q ∈ [fullRam], (q.first ≤ r.first ∧ r.first ≤ q.last) ∨ (q.first ≤ r.last ∧ r.last ≤ q.last)) ∧
    (let r : Region := ⟨0x0001, 0x0000, .null⟩;
      r.last < r.first) ∧
    (let r : Region := ⟨0x8000, 0xFFFF, .null⟩;
      r.first ≤ r.last ∧ ∀ q ∈ [(⟨0x0000, 0x7FFF, .ram⟩ : Region)],
        ¬ ((q.first ≤ r.first ∧ r.first ≤ q.last) ∨ (q.first ≤ r.last ∧ r.last ≤ q.last))) := by decide

/-- The longest program taken and the shortest refused. -/
theorem witness_LoaderPlacesProgram :
    base.cfg.regions = [fullRam] ∧ Memory.wf base.mem = true ∧ (List.replicate 0x7FFC (0xEA : Byte)).length ≤ 0x7FFC ∧
      0x7FFC < (List.replicate 0x7FFD (0xEA : Byte)).length :=
  ⟨rfl, rfl, by rw [List.length_replicate], by rw [List.length_replicate]; decide⟩

/-- An exact result in range and one out of it, a division by a number that is not zero, and the ends of the signed
ranges. -/
theorem witness_IntegerDomainWrapsAndChecks :
    let f := IntFamily.i8;
    (f.min ≤ (126 : Int) + 1 ∧ (126 : Int) + 1 ≤ f.max) ∧ ¬ (f.min ≤ (127 : Int) + 1 ∧ (127 : Int) + 1 ≤ f.max) ∧
      (2 : Int) ≠ 0 ∧ (-128 : Int) ≤ -128 ∧ (-128 : Int) ≤ 127 ∧ (-32768 : Int) ≤ -32768 ∧ (-32768 : Int) ≤ 32767 := by
  decide

theorem base_memoryInv : MemoryInv base := ⟨rfl, fun c h => by simp [base, State.reset] at h⟩

theorem witness_StepKeepsMemoryInvariant : MemoryInv base ∧ ∃ t, step base = .next t := ⟨base_memoryInv, _, rfl⟩

theorem witness_StepKeepsLiveBits : LiveBitsInv base ∧ ∃ t, step base = .next t :=
  ⟨by unfold LiveBitsInv; decide, _, rfl⟩

theorem witness_LiveBitsAreUnobservable :
    (SameButLiveBits base { base with p := 0x24 } ∧ ∃ t, step base = .next t) ∧
      SameButLiveBits { base with pc := 0x2000 } { base with pc := 0x2000, p := 0x34 } ∧
      ∃ f, step { base with pc := 0x2000 } = .fault f :=
  ⟨⟨rfl, _, rfl⟩, rfl, _, rfl⟩

/-- `STA $8003` at 0x8000 writes the opcode byte of the next instruction; a push writes it when `PC` runs into the stack;
a byte that has an entry and one that has none. -/
theorem witness_StoreIsSeenByNextFetch :
    (let s := { base with a := 0xEA };
      Memory.wf s.mem = true ∧ ((0x8003 : Addr), (0xEA : Byte)) ∈ stored (.staAbs 0x8003) s ∧
        route s.cfg 0x8003 = .device .ram 0x8003 ∧ tableByte s.cfg 0xEA = some 0xEA ∧
        ∃ t, exec (.staAbs 0x8003) s = .next t ∧ sameCell s.cfg 0x8003 t.pc ∧ fetch t = .ok .nop) ∧
    (let s := { base with pc := 0x01FC, a := 0x02 };
      Memory.wf s.mem = true ∧ ((0x01FD : Addr), (0x02 : Byte)) ∈ stored .pha s ∧
        route s.cfg 0x01FD = .device .ram 0x01FD ∧ tableEntry s.cfg 0x02 = none ∧
        ∃ t, exec .pha s = .next t ∧ sameCell s.cfg 0x01FD t.pc) :=
  ⟨⟨rfl, by simp [stored, Instr.mnemonic, Instr.operand, effectiveAddress, storedByte], rfl, rfl, _, rfl, rfl, rfl⟩, rfl,
    .head _, rfl, rfl, _, rfl, rfl⟩

end Sys2Proof.Tests
end

section
/-!
PROOFS. The laws of the integer domain (rules R6 to R9): construction is the residue in range, checked operations answer
by range, negation is the wrapped negation; and the obligation they settle.
-/

namespace Sys2Proof.Machine

/-- The number of values of a family, the modulus of its reduction, is positive. -/
theorem IntFamily.span_pos (f : IntFamily) : 0 < f.max - f.min + 1 := by
  cases f <;> decide

theorem IntFamily.min_le_wrap (f : IntFamily) (n : Int) : f.min ≤ f.wrap n := by
  have h := Int.emod_nonneg (n - f.min) f.span_pos.ne'
  unfold wrap
  omega

theorem IntFamily.wrap_le_max (f : IntFamily) (n : Int) : f.wrap n ≤ f.max := by
  have h := Int.emod_lt_of_pos (n - f.min) f.span_pos
  unfold wrap
  omega

theorem IntFamily.span_dvd_sub_wrap (f : IntFamily) (n : Int) : f.max - f.min + 1 ∣ n - f.wrap n := by
  have h : n - f.wrap n = (n - f.min) - (n - f.min) % (f.max - f.min + 1) := by
    unfold wrap
    omega
  rw [h]
  exact Int.dvd_self_sub_emod

theorem wrap8_toNat (n : Int) : ((wrap8 n).toNat : Int) = n % 256 := by
  have h : 0 ≤ n % 256 := Int.emod_nonneg n (by decide)
  simp [wrap8, BitVec.toNat_ofInt, h]

theorem wrap16_toNat (n : Int) : ((wrap16 n).toNat : Int) = n % 65536 := by
  have h : 0 ≤ n % 65536 := Int.emod_nonneg n (by decide)
  simp [wrap16, BitVec.toNat_ofInt, h]

theorem IntFamily.checked_of_inRange {f : IntFamily} {n : Int} (h : f.min ≤ n ∧ n ≤ f.max) :
    f.checked n = .next n := by
  simp [checked, holds, h]

theorem IntFamily.checked_of_not_inRange {f : IntFamily} {n : Int} (h : ¬ (f.min ≤ n ∧ n ≤ f.max)) :
    f.checked n = .fault .overflow := by
  simp only [checked, holds, decide_eq_true_eq, if_neg h]

/-- R9: with a divisor other than 0 `checked_div` is the checked floor division. -/
theorem IntFamily.checkedDiv_of_ne_zero (f : IntFamily) (a : Int) {b : Int} (hb : b ≠ 0) :
    f.checkedDiv a b = f.checked (Int.fdiv a b) :=
  if_neg hb

theorem IntFamily.wrap_i8 (n : Int) : IntFamily.i8.wrap n = (n + 128) % 256 - 128 := rfl

theorem IntFamily.wrap_i16 (n : Int) : IntFamily.i16.wrap n = (n + 32768) % 65536 - 32768 := rfl

/-- R8: the negation that keeps MIN is the wrapped negation on the values of the family. -/
theorem negI8_eq_wrap_neg {v : Int} (hlo : -128 ≤ v) (hhi : v ≤ 127) : negI8 v = IntFamily.i8.wrap (-v) := by
  rw [IntFamily.wrap_i8, negI8]
  split <;> omega

theorem negI16_eq_wrap_neg {v : Int} (hlo : -32768 ≤ v) (hhi : v ≤ 32767) :
    negI16 v = IntFamily.i16.wrap (-v) := by
  rw [IntFamily.wrap_i16, negI16]
  split <;> omega

/-- R7 and R9: whichever checked operation is asked for, it answers `checked` of its exact result. -/
theorem IntFamily.checkedOp_eq_checked {f : IntFamily} {a b n : Int} {r : Host.Outcome Int Fault Refusal}
    (h : (r, n) ∈ [(f.checkedAdd a b, a + b), (f.checkedSub a b, a - b), (f.checkedMul a b, a * b)] ∨
      (b ≠ 0 ∧ (r, n) = (f.checkedDiv a b, Int.fdiv a b))) : r = f.checked n := by
  rcases h with hmem | ⟨hb, heq⟩
  · simp only [List.mem_cons, Prod.mk.injEq, List.not_mem_nil, or_false] at hmem
    rcases hmem with ⟨rfl, rfl⟩ | ⟨rfl, rfl⟩ | ⟨rfl, rfl⟩ <;> rfl
  · obtain ⟨rfl, rfl⟩ := Prod.mk.inj heq
    exact f.checkedDiv_of_ne_zero a hb

/-- Settles O55, from one law per operation of the domain; each checked operation is `checked` of its exact result. -/
theorem integerDomainWrapsAndChecks : Obligations.IntegerDomainWrapsAndChecks := by
  intro f a b
  refine ⟨f.min_le_wrap a, f.wrap_le_max a, f.span_dvd_sub_wrap a, wrap8_toNat a, wrap16_toNat a, rfl, rfl, ?_,
    negI8_eq_wrap_neg, negI16_eq_wrap_neg⟩
  intro r n hop
  rw [IntFamily.checkedOp_eq_checked hop]
  exact ⟨IntFamily.checked_of_inRange, IntFamily.checked_of_not_inRange⟩

end Sys2Proof.Machine
end

section
/-!
PROOFS. The handler behind each instruction. The 256 arms of `exec` have eleven shapes; `handler` names the shape of an
instruction with the functions that fill it in, `exec_eq_run` ties it to `exec`, and a law of every instruction is then
proved once per shape and once per mnemonic.
-/

namespace Sys2Proof.Machine

/-- The shapes of a handler, each with the functions that fill it in. -/
inductive Handler
  /-- Registers only. -/
  | acts (effect : State → State)
  /-- Reads its operand, then acts on registers and flags. -/
  | reads (effect : Byte → State → State)
  /-- Stores a register value at its effective address. -/
  | stores (value : State → Byte)
  /-- Reads, modifies and writes one address. -/
  | modifies (modify : Byte → State → Byte × State) (after : Byte → State → State)
  /-- Pushes one byte. -/
  | pushes (value : State → Byte)
  /-- Pulls one byte, then acts on registers and flags. -/
  | pulls (effect : Byte → State → State)
  /-- Branches (R200). -/
  | branches (c : Cond) (off : Byte)
  /-- Jumps (R209, R210). -/
  | jumps (target : State → Except Fault Addr)
  /-- JSR (R211). -/
  | calls
  /-- RTS and RTI (R212, R221): pulls what it restores, `PC` included. -/
  | returns (body : State → Except Fault (State × Option Addr))
  /-- A byte with no table entry (R246). -/
  | unhandled

/-- What a handler of an instruction does. -/
def Handler.run (h : Handler) (i : Instr) (s : State) : Result :=
  match h with
  | .acts effect => registerOnly effect s
  | .reads effect => withOperand i.operand effect s
  | .stores value => storeAt i.operand (value s) s
  | .modifies modify after => readModifyWrite i.operand modify after s
  | .pushes value => advance s 1 (push8 (value s) s)
  | .pulls effect => advance s 1 ((pull8 s).map fun (v, t) => effect v t)
  | .branches c off => branch c off s
  | .jumps target => finish s 3 ((target s).map fun t => (s, some t))
  | .calls => finish s 3 (call s)
  | .returns body => finish s 1 (body s)
  | .unhandled => raiseUnhandled i.opcode s

/-- A shift or rotate of the accumulator. -/
def shiftA (f : Byte → Bool → Shifted) (s : State) : State := accumulate (shiftStep f s.a s).1 (shiftStep f s.a s).2

/-- RTS: the word pulled, plus one (R212). -/
def rtsBody (s : State) : Except Fault (State × Option Addr) := (pull16 s).map fun (w, t) => (t, some (w + 1))

/-- The handler of a mnemonic's forms with an operand. -/
def operandHandler : Mnemonic → Handler
  | .LDA => .reads (loadReg .a)
  | .LDX => .reads (loadReg .x)
  | .LDY => .reads (loadReg .y)
  | .LAX => .reads fun v s => loadReg .x v (s.setReg .a v)
  | .AND => .reads fun m s => accumulate (s.a &&& m) s
  | .ORA => .reads fun m s => accumulate (s.a ||| m) s
  | .EOR => .reads fun m s => accumulate (s.a ^^^ m) s
  | .ADC => .reads adcCore
  | .SBC => .reads sbcCore
  | .CMP => .reads fun m s => compareWith s.a m s
  | .CPX => .reads fun m s => compareWith s.x m s
  | .CPY => .reads fun m s => compareWith s.y m s
  | .BIT => .reads bitTest
  | .NOP => .reads fun _ s => s
  | .ANC => .reads ancCore
  | .ALR => .reads alrCore
  | .ARR => .reads arrCore
  | .AXS => .reads axsCore
  | .STA => .stores State.a
  | .STX => .stores State.x
  | .STY => .stores State.y
  | .SAX => .stores fun s => s.a &&& s.x
  | .INC => .modifies (fun v s => (v + 1, s)) setZN
  | .DEC => .modifies (fun v s => (v - 1, s)) setZN
  | .ASL => .modifies (shiftStep shiftLeft) setZN
  | .LSR => .modifies (shiftStep shiftRight) setZN
  | .ROL => .modifies (shiftStep rotateLeft) setZN
  | .ROR => .modifies (shiftStep rotateRight) setZN
  | .SLO => .modifies (shiftStep shiftLeft) fun r s => accumulate (s.a ||| r) s
  | .RLA => .modifies (shiftStep rotateLeft) fun r s => accumulate (s.a &&& r) s
  | .SRE => .modifies (shiftStep shiftRight) fun r s => accumulate (s.a ^^^ r) s
  | .RRA => .modifies (shiftStep rotateRight) adcCore
  | .DCP => .modifies (fun v s => (v - 1, s)) fun r s => compareWith s.a r s
  | .ISB => .modifies (fun v s => (v + 1, s)) fun r s => adcCore (r ^^^ 0xFF) s
  | _ => .unhandled

/-- The handler of a mnemonic's form without an operand; the branches and JMP, whose handlers hold an operand, are not
here. -/
def impliedHandler : Mnemonic → Handler
  | .TAX => .acts fun s => loadReg .x s.a s
  | .TAY => .acts fun s => loadReg .y s.a s
  | .TXA => .acts fun s => loadReg .a s.x s
  | .TYA => .acts fun s => loadReg .a s.y s
  | .TSX => .acts fun s => loadReg .x s.sp s
  | .TXS => .acts fun s => s.setReg .sp s.x
  | .INX => .acts fun s => loadReg .x (s.x + 1) s
  | .INY => .acts fun s => loadReg .y (s.y + 1) s
  | .DEX => .acts fun s => loadReg .x (s.x - 1) s
  | .DEY => .acts fun s => loadReg .y (s.y - 1) s
  | .CLC => .acts fun s => s.setStatus (unsetFlag .c s.p)
  | .SEC => .acts fun s => s.setStatus (setFlag .c s.p)
  | .CLI => .acts fun s => s.setStatus (unsetFlag .i s.p)
  | .SEI => .acts fun s => s.setStatus (setFlag .i s.p)
  | .CLD => .acts fun s => s.setStatus (unsetFlag .d s.p)
  | .SED => .acts fun s => s.setStatus (setFlag .d s.p)
  | .CLV => .acts fun s => s.setStatus (unsetFlag .v s.p)
  | .PHA => .pushes State.a
  | .PHP | .BRK => .pushes fun s => pushedStatus s.p
  | .PLA => .pulls (loadReg .a)
  | .PLP => .pulls fun v s => s.setStatus (restoredStatus v)
  | .JSR => .calls
  | .RTS => .returns rtsBody
  | .RTI => .returns trapReturn
  | .ASL => .acts (shiftA shiftLeft)
  | .LSR => .acts (shiftA shiftRight)
  | .ROL => .acts (shiftA rotateLeft)
  | .ROR => .acts (shiftA rotateRight)
  | .NOP => .acts fun s => s
  | _ => .unhandled

/-- The handler of a branch or a JMP. -/
def transferHandler : Instr → Option Handler
  | .bcc off => some (.branches condBcc off)
  | .bcs off => some (.branches condBcs off)
  | .beq off => some (.branches condBeq off)
  | .bne off => some (.branches condBne off)
  | .bmi off => some (.branches condBmi off)
  | .bpl off => some (.branches condBpl off)
  | .bvc off => some (.branches condBvc off)
  | .bvs off => some (.branches condBvs off)
  | .jmpAbs w => some (.jumps fun _ => .ok w)
  | .jmpInd w => some (.jumps (indirectTarget w))
  | _ => none

/-- The handler of an instruction. -/
def handler (i : Instr) : Handler :=
  match transferHandler i, i.operand with
  | some h, _ => h
  | none, .noneAddressing => impliedHandler i.mnemonic
  | none, _ => operandHandler i.mnemonic

/-- Every instruction does what its handler does. -/
theorem exec_eq_run (i : Instr) (s : State) : exec i s = (handler i).run i s := by
  cases i <;> rfl

/-- A property of every instruction's handler is one of the two tables, of the branches and of the two jumps. -/
theorem handler_induction {P : Handler → Prop} {i : Instr}
    (branches : ∀ c off, branchCond i = some c → P (.branches c off)) (absolute : ∀ w, P (.jumps fun _ => .ok w))
    (indirect : ∀ w, P (.jumps (indirectTarget w))) (implied : P (impliedHandler i.mnemonic))
    (operand : P (operandHandler i.mnemonic)) : P (handler i) := by
  unfold handler
  split
  case h_1 h _ ht =>
    unfold transferHandler at ht
    split at ht <;> cases ht
    case h_9.refl w => exact absolute w
    case h_10.refl w => exact indirect w
    all_goals exact branches _ _ rfl
  case h_2 => exact implied
  case h_3 => exact operand

/-- What a handler that answers has done to the state, `PC` aside. -/
def Handler.Does (h : Handler) (i : Instr) (s u : State) : Prop :=
  match h with
  | .acts effect => u = effect s
  | .reads effect => ∃ v, operandValue i.operand s = .ok v ∧ u = effect v s
  | .stores value => ∃ a, effectiveAddress i.operand s = .ok a ∧ memWrite s a (value s) = .ok u
  | .modifies modify after => ∃ a v w, effectiveAddress i.operand s = .ok a ∧ memRead s a = .ok v ∧
      memWrite (modify v s).2 a (modify v s).1 = .ok w ∧ u = after (modify v s).1 w
  | .pushes value => push8 (value s) s = .ok u
  | .pulls effect => ∃ v w, pull8 s = .ok (v, w) ∧ u = effect v w
  | .branches _ _ | .jumps _ => u = s
  | .calls => ∃ w, push8 (highByte (s.pc + 2)) s = .ok w ∧ push8 (lowByte (s.pc + 2)) w = .ok u
  | .returns body => ∃ assigned, body s = .ok (u, assigned)
  | .unhandled => False

/-- Everything a handler can do when it answers. -/
theorem Handler.run_next {h : Handler} {i : Instr} {s t : State} (hr : h.run i s = .next t) :
    ∃ u pc, h.Does i s u ∧ t = u.setPc pc := by
  cases h with
  | acts effect => exact ⟨effect s, _, rfl, (Host.Outcome.next.inj hr).symm⟩
  | reads effect =>
    obtain ⟨v, hv, ht⟩ := withOperand_next hr
    exact ⟨_, _, ⟨v, hv, rfl⟩, ht⟩
  | stores value =>
    obtain ⟨a, u, ha, hu, ht⟩ := storeAt_next hr
    exact ⟨u, _, ⟨a, ha, hu⟩, ht⟩
  | modifies modify after =>
    obtain ⟨a, v, w, ha, hv, hw, ht⟩ := readModifyWrite_next hr
    exact ⟨_, _, ⟨a, v, w, ha, hv, hw, rfl⟩, ht⟩
  | pushes value =>
    obtain ⟨u, hu, ht⟩ := advance_next hr
    exact ⟨u, _, hu, ht⟩
  | pulls effect =>
    obtain ⟨u, hu, ht⟩ := advance_next hr
    cases hp : pull8 s with
    | error f => rw [hp] at hu; cases hu
    | ok q =>
      rw [hp] at hu
      exact ⟨u, _, ⟨q.1, q.2, hp, (Except.ok.inj hu).symm⟩, ht⟩
  | branches c off => exact ⟨s, _, rfl, branch_next hr⟩
  | jumps target =>
    obtain ⟨u, assigned, hu, ht⟩ := finish_next hr
    cases hg : target s with
    | error f => rw [hg] at hu; cases hu
    | ok w => rw [hg] at hu; cases hu; exact ⟨s, _, rfl, ht⟩
  | calls =>
    obtain ⟨u, assigned, hu, ht⟩ := finish_next hr
    obtain ⟨w, u', target, h1, h2, -, rfl, -⟩ := call_ok hu
    exact ⟨u, _, ⟨w, h1, h2⟩, ht⟩
  | returns body =>
    obtain ⟨u, assigned, hu, ht⟩ := finish_next hr
    exact ⟨u, _, ⟨assigned, hu⟩, ht⟩
  | unhandled => cases hr

/-- Everything an instruction can do when it answers. -/
theorem exec_next {i : Instr} {s t : State} (h : exec i s = .next t) :
    ∃ u pc, (handler i).Does i s u ∧ t = u.setPc pc :=
  Handler.run_next (by rw [← exec_eq_run]; exact h)

end Sys2Proof.Machine
end

section
/-!
PROOFS. The live bits BREAK and BREAK2 (R29). `eraseLive` clears the two stored bits; every operation commutes with it,
so no step's answer depends on them.
-/

namespace Sys2Proof.Machine

open Sys2Proof.Claim

/-- A status byte with the live bits cleared. -/
def dropLive (p : Byte) : Byte := p &&& 0xCF

/-- The state with the live bits cleared. -/
def eraseLive (s : State) : State := { s with p := dropLive s.p }

theorem sameButLiveBits_iff (s t : State) : SameButLiveBits s t ↔ eraseLive s = eraseLive t := Iff.rfl

@[simp] theorem eraseLive_pc (s : State) : (eraseLive s).pc = s.pc := rfl
@[simp] theorem eraseLive_a (s : State) : (eraseLive s).a = s.a := rfl
@[simp] theorem eraseLive_x (s : State) : (eraseLive s).x = s.x := rfl
@[simp] theorem eraseLive_y (s : State) : (eraseLive s).y = s.y := rfl
@[simp] theorem eraseLive_sp (s : State) : (eraseLive s).sp = s.sp := rfl
@[simp] theorem eraseLive_p (s : State) : (eraseLive s).p = dropLive s.p := rfl
@[simp] theorem eraseLive_cfg (s : State) : (eraseLive s).cfg = s.cfg := rfl

/-! ### The status register -/

/-- The live bits are dropped and the other six flags are kept. -/
theorem hasFlag_dropLive (p : Byte) (f : Flag) :
    hasFlag (dropLive p) f = if f = .b ∨ f = .u then false else hasFlag p f := by
  cases f <;> simp [dropLive, hasFlag, Flag.bit]

@[simp] theorem hasFlag_dropLive_of_ne (p : Byte) {f : Flag} (hb : f ≠ .b) (hu : f ≠ .u) :
    hasFlag (dropLive p) f = hasFlag p f := by
  simp [hasFlag_dropLive, hb, hu]

@[simp] theorem putFlag_dropLive (p : Byte) (v : Bool) {f : Flag} (hb : f ≠ .b) (hu : f ≠ .u) :
    putFlag f v (dropLive p) = dropLive (putFlag f v p) := by
  refine status_ext fun g => ?_
  by_cases hg : g = f
  · simp [hasFlag_putFlag, hg, hb, hu]
  · simp [hasFlag_putFlag, hasFlag_dropLive, hg]

@[simp] theorem setFlag_dropLive (p : Byte) {f : Flag} (hb : f ≠ .b) (hu : f ≠ .u) :
    setFlag f (dropLive p) = dropLive (setFlag f p) := putFlag_dropLive p true hb hu

@[simp] theorem unsetFlag_dropLive (p : Byte) {f : Flag} (hb : f ≠ .b) (hu : f ≠ .u) :
    unsetFlag f (dropLive p) = dropLive (unsetFlag f p) := putFlag_dropLive p false hb hu

@[simp] theorem statusZN_dropLive (v p : Byte) : statusZN v (dropLive p) = dropLive (statusZN v p) := by
  simp [statusZN]

/-- A push of the flags forces the two bits, whatever they were (R29). -/
@[simp] theorem pushedStatus_dropLive (p : Byte) : pushedStatus (dropLive p) = pushedStatus p := by
  refine status_ext fun g => ?_
  by_cases hg : g = .b ∨ g = .u <;> simp [hasFlag_pushedStatus, hasFlag_dropLive, hg]

/-! ### The effects on registers and flags -/

@[simp] theorem eraseLive_eraseLive (s : State) : eraseLive (eraseLive s) = eraseLive s := by
  simp [eraseLive, dropLive, BitVec.and_assoc]

@[simp] theorem setReg_eraseLive (r : Reg) (v : Byte) (s : State) :
    (eraseLive s).setReg r v = eraseLive (s.setReg r v) := by cases r <;> rfl

@[simp] theorem setStatus_eraseLive (v : Byte) (s : State) : (eraseLive s).setStatus v = s.setStatus v := rfl

theorem eraseLive_setStatus (v : Byte) (s : State) : eraseLive (s.setStatus v) = s.setStatus (dropLive v) := rfl

@[simp] theorem setZN_eraseLive (v : Byte) (s : State) : setZN v (eraseLive s) = eraseLive (setZN v s) := by
  simp [setZN, eraseLive]

@[simp] theorem setCarry_eraseLive (v : Bool) (s : State) : setCarry v (eraseLive s) = eraseLive (setCarry v s) := by
  simp [setCarry, eraseLive]

@[simp] theorem loadReg_eraseLive (r : Reg) (v : Byte) (s : State) :
    loadReg r v (eraseLive s) = eraseLive (loadReg r v s) := by simp [loadReg]

@[simp] theorem accumulate_eraseLive (v : Byte) (s : State) : accumulate v (eraseLive s) = eraseLive (accumulate v s) :=
  loadReg_eraseLive .a v s

@[simp] theorem adcCore_eraseLive (m : Byte) (s : State) : adcCore m (eraseLive s) = eraseLive (adcCore m s) := by
  simp [adcCore, setZN, eraseLive]

@[simp] theorem sbcCore_eraseLive (m : Byte) (s : State) : sbcCore m (eraseLive s) = eraseLive (sbcCore m s) :=
  adcCore_eraseLive _ s

@[simp] theorem compareWith_eraseLive (reg m : Byte) (s : State) :
    compareWith reg m (eraseLive s) = eraseLive (compareWith reg m s) := by simp [compareWith]

@[simp] theorem bitTest_eraseLive (m : Byte) (s : State) : bitTest m (eraseLive s) = eraseLive (bitTest m s) := by
  simp [bitTest, eraseLive, ← apply_ite dropLive]

@[simp] theorem shiftStep_eraseLive (f : Byte → Bool → Shifted) (v : Byte) (s : State) :
    shiftStep f v (eraseLive s) = ((shiftStep f v s).1, eraseLive (shiftStep f v s).2) := by simp [shiftStep]

@[simp] theorem shiftA_eraseLive (f : Byte → Bool → Shifted) (s : State) :
    shiftA f (eraseLive s) = eraseLive (shiftA f s) := by simp [shiftA]

@[simp] theorem ancCore_eraseLive (m : Byte) (s : State) : ancCore m (eraseLive s) = eraseLive (ancCore m s) := by
  simp [ancCore]

@[simp] theorem alrCore_eraseLive (m : Byte) (s : State) : alrCore m (eraseLive s) = eraseLive (alrCore m s) := by
  simp [alrCore]

@[simp] theorem arrCore_eraseLive (m : Byte) (s : State) : arrCore m (eraseLive s) = eraseLive (arrCore m s) := by
  simp [arrCore, eraseLive, setCarry, accumulate, setZN]

@[simp] theorem axsCore_eraseLive (m : Byte) (s : State) : axsCore m (eraseLive s) = eraseLive (axsCore m s) :=
  compareWith_eraseLive _ m { s with x := (s.a &&& s.x) - m }

/-! ### The bus, the operands and the stack -/

@[simp] theorem memRead_eraseLive (s : State) (a : Addr) : memRead (eraseLive s) a = memRead s a :=
  memRead_congr rfl rfl a

@[simp] theorem readPair_eraseLive (s : State) (a b : Addr) : readPair (eraseLive s) a b = readPair s a b :=
  readPair_congr rfl rfl a b

@[simp] theorem memWrite_eraseLive (s : State) (a : Addr) (v : Byte) :
    memWrite (eraseLive s) a v = (memWrite s a v).map eraseLive := by
  rw [memWrite_congr (s := s) (s' := eraseLive s) rfl rfl]
  cases h : memWrite s a v with
  | error f => rfl
  | ok t => rw [memWrite_only_mem h]; rfl

@[simp] theorem effectiveAddress_eraseLive (o : Operand) (s : State) :
    effectiveAddress o (eraseLive s) = effectiveAddress o s := by
  cases o <;> simp [effectiveAddress]

@[simp] theorem operandValue_eraseLive (o : Operand) (s : State) : operandValue o (eraseLive s) = operandValue o s := by
  cases o <;> simp [operandValue]

@[simp] theorem push8_eraseLive (v : Byte) (s : State) : push8 v (eraseLive s) = (push8 v s).map eraseLive := by
  simp only [push8, eraseLive_sp, memWrite_eraseLive]
  cases memWrite s (stackAddr s.sp) v <;> rfl

@[simp] theorem pull8_eraseLive (s : State) : pull8 (eraseLive s) = (pull8 s).map (Prod.map id eraseLive) := by
  simp only [pull8, eraseLive_sp, memRead_eraseLive]
  cases memRead s (stackAddr (s.sp + 1)) <;> rfl

@[simp] theorem push16_eraseLive (w : Addr) (s : State) : push16 w (eraseLive s) = (push16 w s).map eraseLive := by
  simp only [push16, push8_eraseLive]
  cases push8 (highByte w) s with
  | error f => rfl
  | ok t => exact push8_eraseLive (lowByte w) t

@[simp] theorem pull16_eraseLive (s : State) : pull16 (eraseLive s) = (pull16 s).map (Prod.map id eraseLive) := by
  simp only [pull16, pull8_eraseLive]
  cases pull8 s with
  | error f => rfl
  | ok q =>
    obtain ⟨lo, t⟩ := q
    simp only [Except.map, Prod.map, bind, Except.bind, pull8_eraseLive]
    cases pull8 t <;> rfl

@[simp] theorem call_eraseLive (s : State) : call (eraseLive s) = (call s).map (Prod.map eraseLive id) := by
  simp only [call, push16_eraseLive, eraseLive_pc]
  cases push16 (s.pc + 2) s with
  | error f => rfl
  | ok t =>
    simp only [Except.map, bind, Except.bind, memReadWide, readPair_eraseLive]
    cases readPair t (s.pc + 1) (s.pc + 1 + 1) <;> rfl

/-! ### The ends of a step -/

/-- An answer with the live bits of its state cleared. -/
def eraseResult : Result → Result
  | .next t => .next (eraseLive t)
  | r => r

theorem eraseResult_finish (s : State) (len : Addr) (r : Except Fault (State × Option Addr)) :
    eraseResult (finish s len r) = finish s len (r.map (Prod.map eraseLive id)) := by
  rcases r with f | ⟨t, assigned⟩ <;> rfl

theorem eraseResult_advance (s : State) (len : Addr) (r : Except Fault State) :
    eraseResult (advance s len r) = advance s len (r.map eraseLive) := by
  rcases r with f | t <;> rfl

/-- `PC` after a step does not depend on the live bits. -/
@[simp] theorem finish_eraseLive (s : State) (len : Addr) (r : Except Fault (State × Option Addr)) :
    finish (eraseLive s) len r = finish s len r := by
  rcases r with f | ⟨t, assigned⟩ <;> rfl

@[simp] theorem advance_eraseLive (s : State) (len : Addr) (r : Except Fault State) :
    advance (eraseLive s) len r = advance s len r := finish_eraseLive s len _

/-! ### The handlers -/

/-- A handler's functions do not depend on the live bits. A pull may overwrite them (PLP), so of its effect only the
rest of the state is compared. -/
def Handler.Blind : Handler → Prop
  | .acts effect => ∀ s, effect (eraseLive s) = eraseLive (effect s)
  | .reads effect => ∀ v s, effect v (eraseLive s) = eraseLive (effect v s)
  | .stores value | .pushes value => ∀ s, value (eraseLive s) = value s
  | .modifies modify after =>
    (∀ v s, modify v (eraseLive s) = ((modify v s).1, eraseLive (modify v s).2)) ∧
      ∀ r s, after r (eraseLive s) = eraseLive (after r s)
  | .pulls effect => ∀ v s, eraseLive (effect v (eraseLive s)) = eraseLive (effect v s)
  | .branches c _ => c.flag ≠ .b ∧ c.flag ≠ .u
  | .jumps target => ∀ s, target (eraseLive s) = target s
  | .returns body => ∀ s, (body (eraseLive s)).map (Prod.map eraseLive id) = (body s).map (Prod.map eraseLive id)
  | .calls | .unhandled => True

/-- The functions of each row are effects that commute with `eraseLive`, or read registers it keeps. -/
theorem operandHandler_blind (m : Mnemonic) : (operandHandler m).Blind := by
  cases m <;> simp [operandHandler, Handler.Blind]

theorem rtsBody_blind : (Handler.returns rtsBody).Blind := by
  intro s
  simp only [rtsBody, pull16_eraseLive]
  cases pull16 s with
  | error f => rfl
  | ok q => simp [Except.map]

theorem trapReturn_blind : (Handler.returns trapReturn).Blind := by
  intro s
  simp only [trapReturn, pull8_eraseLive]
  cases pull8 s with
  | error f => rfl
  | ok q => rfl

theorem impliedHandler_blind (m : Mnemonic) : (impliedHandler m).Blind := by
  cases m
  case RTS => exact rtsBody_blind
  case RTI => exact trapReturn_blind
  all_goals simp [impliedHandler, Handler.Blind, eraseLive_setStatus]

theorem holds_dropLive {c : Cond} (hb : c.flag ≠ .b) (hu : c.flag ≠ .u) (p : Byte) :
    c.holds (dropLive p) = c.holds p := by
  simp [Cond.holds, hb, hu]

/-- No branch tests a live bit (R201 to R208). -/
theorem branchCond_flag {i : Instr} {c : Cond} (h : branchCond i = some c) : c.flag ≠ .b ∧ c.flag ≠ .u := by
  unfold branchCond at h
  split at h <;> cases h <;> decide

theorem handler_blind (i : Instr) : (handler i).Blind := by
  refine handler_induction (P := Handler.Blind) ?_ ?_ ?_ ?_ ?_
  · exact fun c _ hc => branchCond_flag hc
  · exact fun _ _ => rfl
  · exact fun w s => readPair_eraseLive s w _
  · exact impliedHandler_blind _
  · exact operandHandler_blind _

/-- What a blind handler answers does not depend on the live bits. -/
theorem Handler.Blind.run {h : Handler} (hb : h.Blind) (i : Instr) (s : State) :
    eraseResult (h.run i (eraseLive s)) = eraseResult (h.run i s) := by
  cases h with
  | acts effect =>
    have he : effect (eraseLive s) = eraseLive (effect s) := hb s
    simp only [Handler.run, registerOnly, advance_eraseLive, eraseResult_advance, he, Except.map, eraseLive_eraseLive]
  | reads effect =>
    have he : ∀ v, effect v (eraseLive s) = eraseLive (effect v s) := fun v => hb v s
    simp only [Handler.run, withOperand, advance_eraseLive, eraseResult_advance, operandValue_eraseLive]
    cases operandValue i.operand s <;> simp [Except.map, he]
  | stores value =>
    have hv : value (eraseLive s) = value s := hb s
    simp only [Handler.run, storeAt, hv, advance_eraseLive, eraseResult_advance, effectiveAddress_eraseLive]
    cases effectiveAddress i.operand s with
    | error f => rfl
    | ok a =>
      simp only [bind, Except.bind, memWrite_eraseLive]
      cases memWrite s a (value s) <;> simp [Except.map]
  | modifies modify after =>
    obtain ⟨hm, ha⟩ := hb
    simp only [Handler.run, readModifyWrite, advance_eraseLive, eraseResult_advance, effectiveAddress_eraseLive]
    cases effectiveAddress i.operand s with
    | error f => rfl
    | ok a =>
      simp only [bind, Except.bind, memRead_eraseLive]
      cases memRead s a with
      | error f => rfl
      | ok v =>
        simp only [hm, memWrite_eraseLive]
        cases memWrite (modify v s).2 a (modify v s).1 <;> simp [Except.map, pure, Except.pure, ha]
  | pushes value =>
    have hv : value (eraseLive s) = value s := hb s
    simp only [Handler.run, hv, advance_eraseLive, eraseResult_advance, push8_eraseLive]
    cases push8 (value s) s <;> simp [Except.map]
  | pulls effect =>
    have he : ∀ v t, eraseLive (effect v (eraseLive t)) = eraseLive (effect v t) := hb
    simp only [Handler.run, advance_eraseLive, eraseResult_advance, pull8_eraseLive]
    cases pull8 s <;> simp [Except.map, he]
  | branches c off =>
    obtain ⟨hcb, hcu⟩ := hb
    simp only [Handler.run, branch, finish_eraseLive, eraseResult_finish, eraseLive_p, eraseLive_pc,
      holds_dropLive hcb hcu, Except.map, Prod.map, eraseLive_eraseLive]
  | jumps target =>
    have ht : target (eraseLive s) = target s := hb s
    simp only [Handler.run, ht, finish_eraseLive, eraseResult_finish]
    cases target s <;> simp [Except.map]
  | calls =>
    simp only [Handler.run, finish_eraseLive, eraseResult_finish, call_eraseLive]
    rcases call s with f | ⟨t, assigned⟩ <;> simp [Except.map]
  | returns body =>
    have he : (body (eraseLive s)).map (Prod.map eraseLive id) = (body s).map (Prod.map eraseLive id) := hb s
    simp only [Handler.run, finish_eraseLive, eraseResult_finish, he]
  | unhandled => rfl

theorem exec_eraseLive (i : Instr) (s : State) : eraseResult (exec i (eraseLive s)) = eraseResult (exec i s) := by
  simp only [exec_eq_run, (handler_blind i).run]

/-! ### The fetch -/

@[simp] theorem peek_eraseLive (s : State) (a : Addr) : peek (eraseLive s) a = peek s a := by simp [peek]

@[simp] theorem instrAt_eraseLive (s : State) (op : Byte) : instrAt (eraseLive s) op = instrAt s op := by
  simp [instrAt]

@[simp] theorem readOperandBytes_eraseLive (s : State) (n : Nat) :
    readOperandBytes (eraseLive s) n = readOperandBytes s n := by
  induction n with
  | zero => rfl
  | succ n ih => simp [readOperandBytes, ih]

/-- How many operand bytes a branch reads depends on the flag it tests, which is no live bit (R200). -/
@[simp] theorem operandReads_dropLive (i : Instr) (p : Byte) : operandReads i (dropLive p) = operandReads i p := by
  unfold operandReads
  split
  · rfl
  · split
    case h_1 c hc =>
      obtain ⟨hb, hu⟩ := branchCond_flag hc
      rw [holds_dropLive hb hu]
    case h_2 => rfl

@[simp] theorem fetch_eraseLive (s : State) : fetch (eraseLive s) = fetch s := by simp [fetch]

/-! ### The step -/

theorem step_eraseLive (s : State) : eraseResult (step (eraseLive s)) = eraseResult (step s) := by
  simp only [step, fetch_eraseLive]
  cases fetch s with
  | error f => rfl
  | ok i => exact exec_eraseLive i s

theorem eraseResult_eq_next {r : Result} {t : State} (h : eraseResult r = .next (eraseLive t)) :
    ∃ t', r = .next t' ∧ SameButLiveBits t t' := by
  cases r with
  | next t' => exact ⟨t', rfl, (Host.Outcome.next.inj h).symm⟩
  | fault f => cases h
  | refused q => cases h

theorem eraseResult_eq_fault {r : Result} {f : Fault} (h : eraseResult r = .fault f) : r = .fault f := by
  cases r <;> cases h
  rfl

/-- Settles O59: a step commutes with clearing the live bits. -/
theorem liveBitsAreUnobservable : Obligations.LiveBitsAreUnobservable := by
  intro s s' hs
  have hstep : eraseResult (step s') = eraseResult (step s) := by
    rw [← step_eraseLive s, ← step_eraseLive s', (sameButLiveBits_iff s s').1 hs]
  refine ⟨fun t ht => ?_, fun f hf => ?_⟩
  · rw [ht] at hstep
    exact eraseResult_eq_next hstep
  · rw [hf] at hstep
    exact eraseResult_eq_fault hstep

end Sys2Proof.Machine
end

section
/-!
PROOFS. What an instruction leaves alone: the flags and registers its mnemonic is not listed for (R21 to R24, R28), the
configuration (R20), and every byte of memory it does not store to.
-/

namespace Sys2Proof.Machine

open Sys2Proof.Claim

/-! ### Within what a mnemonic may write -/

/-- From `s` to `t` only what the mnemonic may write has changed, memory aside. -/
structure Within (m : Mnemonic) (s t : State) : Prop where
  flag : ∀ f, m ∉ flagWriters f → hasFlag t.p f = hasFlag s.p f
  reg : ∀ r, m ∉ regWriters r → t.reg r = s.reg r
  cfg : t.cfg = s.cfg

variable {m : Mnemonic} {s t u : State}

theorem Within.refl (m : Mnemonic) (s : State) : Within m s s := ⟨fun _ _ => rfl, fun _ _ => rfl, rfl⟩

theorem Within.trans (h : Within m s t) (h' : Within m t u) : Within m s u :=
  ⟨fun f hf => (h'.flag f hf).trans (h.flag f hf), fun r hr => (h'.reg r hr).trans (h.reg r hr), h'.cfg.trans h.cfg⟩

theorem Within.setPc (h : Within m s t) (v : Addr) : Within m s (t.setPc v) :=
  ⟨h.flag, fun r hr => by rw [reg_setPc, h.reg r hr], h.cfg⟩

theorem Within.of_memWrite {a : Addr} {v : Byte} (h : memWrite s a v = .ok t) : Within m s t := by
  rw [memWrite_only_mem h]
  exact ⟨fun _ _ => rfl, fun r _ => by cases r <;> rfl, rfl⟩

/-- A register the mnemonic is listed for may be written. -/
theorem Within.setReg {r : Reg} (h : m ∈ regWriters r) (v : Byte) (s : State) : Within m s (s.setReg r v) where
  flag f _ := by rw [setReg_p]
  reg q hq := by
    have hqr : q ≠ r := by rintro rfl; exact hq h
    rw [reg_setReg, if_neg hqr]
  cfg := setReg_cfg s r v

/-- A flag the mnemonic is listed for may be written. -/
theorem Within.putFlag {f : Flag} (h : m ∈ flagWriters f) (v : Bool) (s : State) :
    Within m s (s.setStatus (putFlag f v s.p)) where
  flag g hg := by
    have hgf : g ≠ f := by rintro rfl; exact hg h
    rw [setStatus_p, hasFlag_putFlag, if_neg hgf]
  reg r _ := reg_setStatus s r _
  cfg := rfl

/-- The whole status register may be written by a mnemonic that is listed for every flag. -/
theorem Within.setStatus (h : ∀ f, m ∈ flagWriters f) (v : Byte) (s : State) : Within m s (s.setStatus v) :=
  ⟨fun f hf => absurd (h f) hf, fun r _ => reg_setStatus s r v, rfl⟩

/-! ### The effects on registers and flags -/

theorem within_setZN (v : Byte) (s : State) (hz : m ∈ flagWriters .z := by decide)
    (hn : m ∈ flagWriters .n := by decide) : Within m s (setZN v s) :=
  (Within.putFlag hz _ s).trans (Within.putFlag hn _ _)

theorem within_setCarry (v : Bool) (s : State) (hc : m ∈ flagWriters .c := by decide) : Within m s (setCarry v s) :=
  Within.putFlag hc v s

theorem within_loadReg (r : Reg) (v : Byte) (s : State) (hr : m ∈ regWriters r := by decide)
    (hz : m ∈ flagWriters .z := by decide) (hn : m ∈ flagWriters .n := by decide) : Within m s (loadReg r v s) :=
  (Within.setReg hr v s).trans (within_setZN v _ hz hn)

theorem within_accumulate (v : Byte) (s : State) (ha : m ∈ regWriters .a := by decide)
    (hz : m ∈ flagWriters .z := by decide) (hn : m ∈ flagWriters .n := by decide) : Within m s (accumulate v s) :=
  within_loadReg .a v s ha hz hn

theorem within_compareWith (reg v : Byte) (s : State) (hc : m ∈ flagWriters .c := by decide)
    (hz : m ∈ flagWriters .z := by decide) (hn : m ∈ flagWriters .n := by decide) :
    Within m s (compareWith reg v s) :=
  (within_setCarry _ s hc).trans (within_setZN _ _ hz hn)

theorem within_adcCore (v : Byte) (s : State) (ha : m ∈ regWriters .a := by decide)
    (hc : m ∈ flagWriters .c := by decide) (hv : m ∈ flagWriters .v := by decide)
    (hz : m ∈ flagWriters .z := by decide) (hn : m ∈ flagWriters .n := by decide) : Within m s (adcCore v s) :=
  (Within.setReg ha (adcCore v s).a s).trans
    ((within_setCarry (decide (adderSum s.a v (hasFlag s.p .c) > 0xFF)) _ hc).trans
      ((Within.putFlag hv (adderOverflow s.a v (adcCore v s).a) _).trans (within_setZN (adcCore v s).a _ hz hn)))

theorem within_bitTest (v : Byte) (s : State) : Within .BIT s (bitTest v s) where
  flag f hf := by
    have hz : f ≠ .z := by rintro rfl; revert hf; decide
    have hn : f ≠ .n := by rintro rfl; revert hf; decide
    have hv : f ≠ .v := by rintro rfl; revert hf; decide
    rw [hasFlag_bitTest, if_neg hz, if_neg hn, if_neg hv]
  reg r _ := by cases r <;> rfl
  cfg := rfl

theorem within_shiftStep (f : Byte → Bool → Shifted) (v : Byte) (s : State)
    (hc : m ∈ flagWriters .c := by decide) : Within m s (shiftStep f v s).2 :=
  within_setCarry _ s hc

theorem within_shiftA (f : Byte → Bool → Shifted) (s : State) (ha : m ∈ regWriters .a := by decide)
    (hc : m ∈ flagWriters .c := by decide) (hz : m ∈ flagWriters .z := by decide)
    (hn : m ∈ flagWriters .n := by decide) : Within m s (shiftA f s) :=
  (within_shiftStep f _ s hc).trans (within_accumulate _ _ ha hz hn)

theorem within_ancCore (v : Byte) (s : State) : Within .ANC s (ancCore v s) :=
  (within_accumulate _ s).trans (within_setCarry _ _)

theorem within_alrCore (v : Byte) (s : State) : Within .ALR s (alrCore v s) :=
  (within_setCarry _ s).trans (within_accumulate _ _)

theorem within_arrCore (v : Byte) (s : State) : Within .ARR s (arrCore v s) :=
  ((within_accumulate _ s).trans (within_setCarry _ _)).trans (Within.putFlag (by decide) _ _)

theorem within_axsCore (v : Byte) (s : State) : Within .AXS s (axsCore v s) :=
  (Within.setReg (r := .x) (by decide) _ s).trans (within_compareWith _ _ _)

/-! ### The stack -/

theorem Within.of_push8 {v : Byte} (hsp : m ∈ regWriters .sp) (h : push8 v s = .ok t) : Within m s t := by
  obtain ⟨u, hu, rfl⟩ := push8_ok h
  exact (Within.of_memWrite hu).trans (Within.setReg hsp _ u)

theorem Within.of_pull8 {v : Byte} (hsp : m ∈ regWriters .sp) (h : pull8 s = .ok (v, t)) : Within m s t := by
  obtain ⟨-, rfl⟩ := pull8_ok h
  exact Within.setReg hsp _ s

/-! ### The handlers -/

/-- From `s` to `t` only registers and flags that the mnemonic may write have changed. -/
def RegistersWithin (m : Mnemonic) (s t : State) : Prop := Within m s t ∧ t.mem = s.mem

/-- The functions of a handler write registers and flags alone, and those alone that the mnemonic may write; a handler
that moves the stack pointer is of a mnemonic listed for it. -/
def Handler.WritesWithin (m : Mnemonic) : Handler → Prop
  | .acts effect => ∀ s, RegistersWithin m s (effect s)
  | .reads effect => ∀ v s, RegistersWithin m s (effect v s)
  | .modifies modify after =>
    (∀ v s, RegistersWithin m s (modify v s).2) ∧ ∀ r s, RegistersWithin m s (after r s)
  | .pushes _ | .calls => m ∈ regWriters .sp
  | .pulls effect => m ∈ regWriters .sp ∧ ∀ v s, RegistersWithin m s (effect v s)
  | .returns body => ∀ s t assigned, body s = .ok (t, assigned) → RegistersWithin m s t
  | .stores _ | .branches _ _ | .jumps _ | .unhandled => True

theorem operandHandler_within (m : Mnemonic) : (operandHandler m).WritesWithin m := by
  cases m
  case LDA | LDX | LDY => exact fun v s => ⟨within_loadReg _ v s, rfl⟩
  case LAX =>
    exact fun v s => ⟨(Within.setReg (r := .a) (by decide) v s).trans (within_loadReg .x v _), rfl⟩
  case AND | ORA | EOR => exact fun _ s => ⟨within_accumulate _ s, rfl⟩
  case ADC | SBC => exact fun _ s => ⟨within_adcCore _ s, rfl⟩
  case CMP | CPX | CPY => exact fun _ s => ⟨within_compareWith _ _ s, rfl⟩
  case BIT => exact fun v s => ⟨within_bitTest v s, rfl⟩
  case NOP => exact fun _ s => ⟨.refl _ s, rfl⟩
  case ANC => exact fun v s => ⟨within_ancCore v s, rfl⟩
  case ALR => exact fun v s => ⟨within_alrCore v s, rfl⟩
  case ARR => exact fun v s => ⟨within_arrCore v s, rfl⟩
  case AXS => exact fun v s => ⟨within_axsCore v s, rfl⟩
  case INC | DEC => exact ⟨fun _ s => ⟨.refl _ s, rfl⟩, fun r s => ⟨within_setZN r s, rfl⟩⟩
  case ASL | LSR | ROL | ROR =>
    exact ⟨fun v s => ⟨within_shiftStep _ v s, rfl⟩, fun r s => ⟨within_setZN r s, rfl⟩⟩
  case SLO | RLA | SRE =>
    exact ⟨fun v s => ⟨within_shiftStep _ v s, rfl⟩, fun _ s => ⟨within_accumulate _ s, rfl⟩⟩
  case RRA => exact ⟨fun v s => ⟨within_shiftStep _ v s, rfl⟩, fun r s => ⟨within_adcCore r s, rfl⟩⟩
  case DCP => exact ⟨fun _ s => ⟨.refl _ s, rfl⟩, fun _ s => ⟨within_compareWith _ _ s, rfl⟩⟩
  case ISB => exact ⟨fun _ s => ⟨.refl _ s, rfl⟩, fun _ s => ⟨within_adcCore _ s, rfl⟩⟩
  all_goals exact True.intro

/-- RTS moves the stack pointer alone (R212). -/
theorem rtsBody_within : (Handler.returns rtsBody).WritesWithin .RTS := by
  intro s t assigned h
  unfold rtsBody at h
  cases hp : pull16 s with
  | error f => rw [hp] at h; cases h
  | ok q =>
    obtain ⟨w, u⟩ := q
    rw [hp] at h
    cases h
    obtain ⟨lo, hi, u, h1, h2, -⟩ := pull16_ok hp
    refine ⟨(Within.of_pull8 (by decide) h1).trans (Within.of_pull8 (by decide) h2), ?_⟩
    obtain ⟨-, rfl⟩ := pull8_ok h1
    obtain ⟨-, rfl⟩ := pull8_ok h2
    rfl

/-- RTI moves the stack pointer and writes the status register (R221). -/
theorem trapReturn_within : (Handler.returns trapReturn).WritesWithin .RTI := by
  intro s t assigned h
  obtain ⟨v, -, -, -, -, -, -, rfl⟩ := trapReturn_ok h
  exact ⟨(Within.setStatus (fun f => by cases f <;> decide) (restoredStatus v) s).trans
    (Within.setReg (r := .sp) (by decide) _ _), rfl⟩

theorem impliedHandler_within (m : Mnemonic) : (impliedHandler m).WritesWithin m := by
  cases m
  case TAX | TAY | TXA | TYA | TSX | INX | INY | DEX | DEY => exact fun s => ⟨within_loadReg _ _ s, rfl⟩
  case TXS => exact fun s => ⟨Within.setReg (by decide) _ s, rfl⟩
  case ASL | LSR | ROL | ROR => exact fun s => ⟨within_shiftA _ s, rfl⟩
  case CLC | CLI | CLD | CLV => exact fun s => ⟨Within.putFlag (by decide) false s, rfl⟩
  case SEC | SEI | SED => exact fun s => ⟨Within.putFlag (by decide) true s, rfl⟩
  case NOP => exact fun s => ⟨.refl _ s, rfl⟩
  case PHA | PHP | BRK | JSR => exact List.elem_iff.1 rfl
  case PLA => exact ⟨by decide, fun v s => ⟨within_loadReg .a v s, rfl⟩⟩
  case PLP => exact ⟨by decide, fun v s => ⟨Within.setStatus (fun f => by cases f <;> decide) _ s, rfl⟩⟩
  case RTS => exact rtsBody_within
  case RTI => exact trapReturn_within
  all_goals exact True.intro

theorem handler_within (i : Instr) : (handler i).WritesWithin i.mnemonic := by
  refine handler_induction (P := Handler.WritesWithin i.mnemonic) ?_ ?_ ?_ ?_ ?_
  · exact fun _ _ _ => True.intro
  · exact fun _ => True.intro
  · exact fun _ => True.intro
  · exact impliedHandler_within _
  · exact operandHandler_within _

theorem Handler.WritesWithin.of_does {h : Handler} {i : Instr} (hw : h.WritesWithin m) (hd : h.Does i s u) :
    Within m s u := by
  cases h with
  | acts effect => rw [hd]; exact (hw s).1
  | reads effect =>
    obtain ⟨v, -, rfl⟩ := hd
    exact (hw v s).1
  | stores value =>
    obtain ⟨a, -, hu⟩ := hd
    exact .of_memWrite hu
  | modifies modify after =>
    obtain ⟨hm, ha⟩ := hw
    obtain ⟨a, v, w, -, -, hu, rfl⟩ := hd
    exact (hm v s).1.trans ((Within.of_memWrite hu).trans (ha _ w).1)
  | pushes value => exact .of_push8 hw hd
  | pulls effect =>
    obtain ⟨hsp, he⟩ := hw
    obtain ⟨v, w, hp, rfl⟩ := hd
    exact (Within.of_pull8 hsp hp).trans (he v w).1
  | branches _ _ | jumps _ => rw [hd]; exact .refl _ _
  | calls =>
    obtain ⟨w, h1, h2⟩ := hd
    exact (Within.of_push8 hw h1).trans (.of_push8 hw h2)
  | returns body =>
    obtain ⟨assigned, hu⟩ := hd
    exact (hw s u assigned hu).1
  | unhandled => exact hd.elim

/-- An instruction that answers has written, memory aside, what its mnemonic may write. -/
theorem exec_within {i : Instr} (h : exec i s = .next t) : Within i.mnemonic s t := by
  obtain ⟨u, pc, hd, rfl⟩ := exec_next h
  exact ((handler_within i).of_does hd).setPc pc

/-! ### Memory -/

/-- From `s` to `t` every byte that the listed stores do not name reads as before; with no store memory is the same. -/
structure MemoryKept (l : List (Addr × Byte)) (s t : State) : Prop where
  cfg : t.cfg = s.cfg
  read : ∀ b, (∀ e ∈ l, ¬ sameCell s.cfg e.1 b) → memRead t b = memRead s b
  mem : l = [] → t.mem = s.mem

theorem MemoryKept.of_mem (l : List (Addr × Byte)) (hc : t.cfg = s.cfg) (hm : t.mem = s.mem) : MemoryKept l s t :=
  ⟨hc, fun b _ => memRead_congr hc hm b, fun _ => hm⟩

theorem MemoryKept.of_registersWithin (l : List (Addr × Byte)) (h : RegistersWithin m s t) : MemoryKept l s t :=
  .of_mem l h.1.cfg h.2

theorem MemoryKept.of_memWrite {a : Addr} {v v' : Byte} (h : memWrite s a v = .ok t) : MemoryKept [(a, v')] s t where
  cfg := by rw [memWrite_only_mem h]
  read _ hb := memRead_memWrite_other h (hb _ (.head _))
  mem := nofun

/-- Two parts of a step in a row. -/
theorem MemoryKept.append {l l' : List (Addr × Byte)} (h : MemoryKept l s t) (h' : MemoryKept l' t u) :
    MemoryKept (l ++ l') s u where
  cfg := h'.cfg.trans h.cfg
  read b hb := by
    have hl' : ∀ e ∈ l', ¬ sameCell t.cfg e.1 b := fun e he => h.cfg ▸ hb e (List.mem_append_right l he)
    rw [h'.read b hl', h.read b fun e he => hb e (List.mem_append_left l' he)]
  mem hl := by
    obtain ⟨hl, hl'⟩ := List.append_eq_nil_iff.1 hl
    rw [h'.mem hl', h.mem hl]

theorem MemoryKept.of_push8 {v v' : Byte} (h : push8 v s = .ok t) : MemoryKept [(stackAt s.sp, v')] s t := by
  obtain ⟨u, hu, rfl⟩ := push8_ok h
  exact (MemoryKept.of_memWrite (a := stackAt s.sp) hu).append (.of_mem [] rfl rfl)

theorem MemoryKept.setPc {l : List (Addr × Byte)} (h : MemoryKept l s t) (pc : Addr) : MemoryKept l s (t.setPc pc) :=
  ⟨h.cfg, h.read, h.mem⟩

/-! ### What an instruction stores -/

/-- The handlers that write at the effective address. -/
def Handler.WritesOperand : Handler → Prop
  | .stores _ | .modifies _ _ => True
  | _ => False

/-- The instructions whose handler pushes a byte. -/
theorem mnemonic_of_pushes {i : Instr} {value : State → Byte} (h : handler i = .pushes value) :
    i.mnemonic ∈ [Mnemonic.PHA, .PHP, .BRK] := by
  revert h
  refine handler_induction (P := fun h => h = .pushes value → i.mnemonic ∈ [Mnemonic.PHA, .PHP, .BRK])
    nofun nofun nofun ?_ ?_
  · cases i.mnemonic <;> simp [impliedHandler]
  · cases i.mnemonic <;> simp [operandHandler]

theorem mnemonic_of_calls {i : Instr} (h : handler i = .calls) : i.mnemonic = .JSR := by
  revert h
  refine handler_induction (P := fun h => h = .calls → i.mnemonic = .JSR) nofun nofun nofun ?_ ?_
  · cases i.mnemonic <;> simp [impliedHandler]
  · cases i.mnemonic <;> simp [operandHandler]

theorem stored_of_pushes {i : Instr} {value : State → Byte} (h : handler i = .pushes value) (s : State) :
    ∃ v, stored i s = [(stackAt s.sp, v)] := by
  have hm := mnemonic_of_pushes h
  simp only [List.mem_cons, List.not_mem_nil, or_false] at hm
  rcases hm with hm | hm | hm <;> simp [stored, hm]

theorem stored_of_calls {i : Instr} (h : handler i = .calls) (s : State) :
    stored i s = [(stackAt s.sp, highByte (s.pc + 2)), (stackAt (s.sp - 1), lowByte (s.pc + 2))] := by
  simp [stored, mnemonic_of_calls h]

/-- A store or a read-modify-write on memory stores one byte, at its effective address. -/
theorem stored_of_writesOperand {i : Instr} (h : (handler i).WritesOperand) {a : Addr}
    (ha : effectiveAddress i.operand s = .ok a) : ∃ v, stored i s = [(a, v)] := by
  revert h
  refine handler_induction (P := fun h => h.WritesOperand → ∃ v, stored i s = [(a, v)]) ?_ ?_ ?_ ?_ ?_
  · exact fun _ _ _ => False.elim
  · exact fun _ => False.elim
  · exact fun _ => False.elim
  · cases i.mnemonic <;> exact False.elim
  · cases hm : i.mnemonic <;> simp [operandHandler, Handler.WritesOperand, stored, hm, ha, storedByte]

/-- An instruction that answers keeps every byte of memory it does not store to. -/
theorem memoryKept_of_does {i : Instr} (hd : (handler i).Does i s u) : MemoryKept (stored i s) s u := by
  have hw := handler_within i
  obtain ⟨h, hh⟩ : ∃ h, handler i = h := ⟨_, rfl⟩
  rw [hh] at hd hw
  cases h with
  | acts effect =>
    rw [hd]
    exact .of_registersWithin _ (hw s)
  | reads effect =>
    obtain ⟨v, -, rfl⟩ := hd
    exact .of_registersWithin _ (hw v s)
  | stores value =>
    obtain ⟨a, ha, hu⟩ := hd
    obtain ⟨v, hv⟩ := stored_of_writesOperand (i := i) (by rw [hh]; trivial) ha
    rw [hv]
    exact .of_memWrite hu
  | modifies modify after =>
    obtain ⟨hm, hafter⟩ := hw
    obtain ⟨a, v, w, ha, -, hu, rfl⟩ := hd
    obtain ⟨v', hv'⟩ := stored_of_writesOperand (i := i) (by rw [hh]; trivial) ha
    rw [hv']
    exact (MemoryKept.of_registersWithin [] (hm v s)).append
      ((MemoryKept.of_memWrite (v' := v') hu).append (.of_registersWithin [] (hafter _ w)))
  | pushes value =>
    obtain ⟨v, hv⟩ := stored_of_pushes hh s
    rw [hv]
    exact .of_push8 hd
  | pulls effect =>
    obtain ⟨-, he⟩ := hw
    obtain ⟨v, w, hp, rfl⟩ := hd
    obtain ⟨-, rfl⟩ := pull8_ok hp
    exact .of_mem _ (he v _).1.cfg (he v _).2
  | branches _ _ | jumps _ =>
    rw [hd]
    exact .of_mem _ rfl rfl
  | calls =>
    obtain ⟨w, h1, h2⟩ := hd
    obtain ⟨w', -, rfl⟩ := push8_ok h1
    rw [stored_of_calls hh]
    exact (MemoryKept.of_push8 h1).append (MemoryKept.of_push8 h2)
  | returns body =>
    obtain ⟨assigned, hu⟩ := hd
    exact .of_registersWithin _ (hw s u assigned hu)
  | unhandled =>
    exact hd.elim

/-- Settles O42: `exec_within`, read for the flags. -/
theorem flagsChangeOnlyByTheirWriters : Obligations.FlagsChangeOnlyByTheirWriters :=
  fun _ _ _ f h hf => (exec_within h).flag f hf

/-- Settles O43: `exec_within`, read for the registers. -/
theorem registersChangeOnlyByTheirWriters : Obligations.RegistersChangeOnlyByTheirWriters :=
  fun _ _ _ r h hr => (exec_within h).reg r hr

/-- Settles O44: each shape of a handler writes memory, if at all, at the addresses `stored` lists. -/
theorem memoryChangesOnlyWhereStored : Obligations.MemoryChangesOnlyWhereStored := by
  intro i s t h
  obtain ⟨u, pc, hd, rfl⟩ := exec_next h
  obtain ⟨hcfg, hread, hmem⟩ := (memoryKept_of_does hd).setPc pc
  exact ⟨hcfg, hread, hmem⟩

/-! ### The live bits -/

theorem eq_plp_of_mnemonic {i : Instr} (h : i.mnemonic = .PLP) : i = .plp := by
  cases i <;> first | rfl | cases h

theorem eq_rti_of_mnemonic {i : Instr} (h : i.mnemonic = .RTI) : i = .rti := by
  cases i <;> first | rfl | cases h

theorem liveBitsInv_of_restoredStatus {v : Byte} (h : t.p = restoredStatus v) : LiveBitsInv t := by
  simp [LiveBitsInv, h, hasFlag_restoredStatus]

/-- PLP leaves BREAK clear and BREAK2 set (R183). -/
theorem execPlp_liveBitsInv (h : exec .plp s = .next t) : LiveBitsInv t := by
  obtain ⟨u, pc, ⟨v, w, -, rfl⟩, rfl⟩ := exec_next h
  exact liveBitsInv_of_restoredStatus rfl

/-- RTI leaves BREAK clear and BREAK2 set (R221). -/
theorem execRti_liveBitsInv (h : exec .rti s = .next t) : LiveBitsInv t := by
  obtain ⟨u, pc, ⟨assigned, hu⟩, rfl⟩ := exec_next h
  obtain ⟨v, -, -, -, -, -, -, rfl⟩ := trapReturn_ok hu
  exact liveBitsInv_of_restoredStatus rfl

theorem exec_liveBitsInv {i : Instr} (hs : LiveBitsInv s) (h : exec i s = .next t) : LiveBitsInv t := by
  by_cases hplp : i.mnemonic = .PLP
  · rw [eq_plp_of_mnemonic hplp] at h
    exact execPlp_liveBitsInv h
  by_cases hrti : i.mnemonic = .RTI
  · rw [eq_rti_of_mnemonic hrti] at h
    exact execRti_liveBitsInv h
  have hnot : i.mnemonic ∉ [Mnemonic.PLP, .RTI] := by simp [hplp, hrti]
  unfold LiveBitsInv
  rw [(exec_within h).flag .b hnot, (exec_within h).flag .u hnot]
  exact hs

/-- Settles O57: PLP and RTI establish the invariant, and no other instruction writes the two bits. -/
theorem stepKeepsLiveBits : Obligations.StepKeepsLiveBits := by
  intro s t hs h
  rcases step_cases s with ⟨f, -, hf⟩ | ⟨i, -, hi⟩
  · rw [hf] at h
    cases h
  · rw [hi] at h
    exact exec_liveBitsInv hs h

end Sys2Proof.Machine
end

section
/-!
PROOFS. The stack primitives (R30 to R33) with RAM behind the stack page: a pull undoes a push, of a byte and of a word.
-/

namespace Sys2Proof.Machine

open Sys2Proof.Claim

/-- Different stack pointers select different cells. -/
theorem not_sameCell_stackAddr {cfg : Config} (hram : RamBehindStack cfg) {sp sp' : Byte} (h : sp ≠ sp') :
    ¬ sameCell cfg (stackAddr sp) (stackAddr sp') := by
  intro hsame
  have hroute : Route.device .ram (stackAt sp) = .device .ram (stackAt sp') :=
    (hram sp).symm.trans (hsame.trans (hram sp'))
  have haddr : stackAt sp = stackAt sp' := (Route.device.inj hroute).2
  simp only [stackAt] at haddr
  bv_omega

/-- What a push leaves where the stack page is RAM: the byte at the old stack pointer, the rest of the stack as it was,
and the premises for the next push. -/
structure Pushed (v : Byte) (s t : State) : Prop where
  sp : t.sp = s.sp - 1
  cfg : t.cfg = s.cfg
  wf : Memory.wf t.mem = true
  top : memRead t (stackAddr s.sp) = .ok v
  below : ∀ sp, sp ≠ s.sp → memRead t (stackAddr sp) = memRead s (stackAddr sp)

theorem push8_ram {s : State} (hram : RamBehindStack s.cfg) (hwf : Memory.wf s.mem = true) (v : Byte) :
    ∃ t, push8 v s = .ok t ∧ Pushed v s t := by
  have hroute : route s.cfg (stackAddr s.sp) = .device .ram (stackAt s.sp) := hram s.sp
  obtain ⟨u, hu⟩ : ∃ u, memWrite s (stackAddr s.sp) v = .ok u := by
    simp [memWrite, hroute, deviceWrite, Except.map]
  have htop : memRead u (stackAddr s.sp) = .ok v := memRead_memWrite_same hwf hu hroute rfl
  have hbelow : ∀ sp, sp ≠ s.sp → memRead u (stackAddr sp) = memRead s (stackAddr sp) :=
    fun sp hsp => memRead_memWrite_other hu (not_sameCell_stackAddr hram hsp.symm)
  have hpush : push8 v s = .ok { u with sp := s.sp - 1 } := by simp only [push8, hu, Except.map]
  obtain ⟨x, -, rfl⟩ := (memWrite_cases hu).resolve_left fun h => h.2 _ hroute
  exact ⟨_, hpush, rfl, rfl, Memory.wf_writeCell hwf x.isLt v, htop, hbelow⟩

theorem pull8_of_memRead {s : State} {v : Byte} (h : memRead s (stackAddr (s.sp + 1)) = .ok v) :
    pull8 s = .ok (v, { s with sp := s.sp + 1 }) := by
  simp only [pull8, h]
  rfl

/-- A pull after a push gives the byte back and restores the stack pointer. -/
theorem Pushed.pull8 {v : Byte} {s t : State} (h : Pushed v s t) : pull8 t = .ok (v, { t with sp := s.sp }) := by
  have hsp : t.sp + 1 = s.sp := by rw [h.sp, BitVec.sub_add_cancel]
  have hread : memRead t (stackAddr (t.sp + 1)) = .ok v := by rw [hsp, h.top]
  rw [pull8_of_memRead hread, hsp]

/-- A pull after two pushes, the later byte being taken off, gives the earlier byte. -/
theorem Pushed.pull8_under {hi lo : Byte} {s u t : State} (h1 : Pushed hi s u) (h2 : Pushed lo u t) :
    Machine.pull8 { t with sp := u.sp } = .ok (hi, { t with sp := s.sp }) := by
  have hsp : u.sp + 1 = s.sp := by rw [h1.sp, BitVec.sub_add_cancel]
  have hne : s.sp ≠ u.sp := by rw [h1.sp]; bv_omega
  have hread : memRead { t with sp := u.sp } (stackAddr (u.sp + 1)) = .ok hi := by
    rw [hsp]
    exact (h2.below _ hne).trans h1.top
  rw [pull8_of_memRead hread, hsp]

/-- Settles O35: the byte pushed last is the byte pulled first, and the second push of a word leaves the first alone. -/
theorem pullUndoesPush : Obligations.PullUndoesPush := by
  intro w v s hram hwf
  constructor
  · obtain ⟨t, ht, hpushed⟩ := push8_ram hram hwf v
    exact ⟨t, ht, hpushed.sp, hpushed.pull8⟩
  · obtain ⟨u, hu, h1⟩ := push8_ram hram hwf (highByte w)
    obtain ⟨t, ht, h2⟩ := push8_ram (h1.cfg ▸ hram) h1.wf (lowByte w)
    refine ⟨t, by simp only [push16, hu, bind, Except.bind, ht], ?_, ?_⟩
    · rw [h2.sp, h1.sp]; bv_omega
    · simp only [pull16, h2.pull8, bind, Except.bind, h1.pull8_under h2, pure, Except.pure, joinBytes_highByte_lowByte]

end Sys2Proof.Machine
end

section
/-!
PROOFS. The flag operations bit by bit (R27, R34), and the reset state: what `reset()` gives (R291), and the invariants
it meets.
-/

namespace Sys2Proof.Machine

/-- Every bit of the status register is a flag's (R27). -/
theorem exists_flag_bit {j : Nat} (hj : j < 8) : ∃ f : Flag, Flag.bit f = j := by
  match j, hj with
  | 0, _ => exact ⟨.c, rfl⟩
  | 1, _ => exact ⟨.z, rfl⟩
  | 2, _ => exact ⟨.i, rfl⟩
  | 3, _ => exact ⟨.d, rfl⟩
  | 4, _ => exact ⟨.b, rfl⟩
  | 5, _ => exact ⟨.u, rfl⟩
  | 6, _ => exact ⟨.v, rfl⟩
  | 7, _ => exact ⟨.n, rfl⟩

/-- The positions of R27 are those of the model. -/
theorem bit_of_mem_positions {f : Flag} {k : Nat}
    (h : (f, k) ∈ [(Flag.c, 0), (.z, 1), (.i, 2), (.d, 3), (.b, 4), (.u, 5), (.v, 6), (.n, 7)]) : k = Flag.bit f := by
  revert h
  cases f <;> simp [Flag.bit]

/-- Settles O29: each bit is a flag's, and the laws of `putFlag` and `toggleFlag` say what each flag then is. -/
theorem flagOperationsTouchOneBit : Obligations.FlagOperationsTouchOneBit := by
  intro f v p k hk
  obtain rfl := bit_of_mem_positions hk
  refine ⟨rfl, ?_, ?_, fun j hj hne => ?_⟩
  · exact (hasFlag_putFlag f f v p).trans (if_pos rfl)
  · exact (hasFlag_toggleFlag f f p).trans (if_pos rfl)
  · obtain ⟨g, rfl⟩ := exists_flag_bit hj
    have hgf : g ≠ f := by rintro rfl; exact hne rfl
    exact ⟨(hasFlag_putFlag f g v p).trans (if_neg hgf), (hasFlag_toggleFlag f g p).trans (if_neg hgf)⟩

/-- Settles O53: with nothing in memory the reset vector reads as 0x0000. -/
theorem resetStateIsResetOfConstructed : Obligations.ResetStateIsResetOfConstructed := by
  have hvector : memReadWide (construct Config.default []) resetVector = .ok 0x0000 := rfl
  refine ⟨?_, rfl, rfl, rfl, rfl, rfl⟩
  rw [resetCpu, hvector]
  rfl

/-- Settles O58: no cell is listed, and P = 0x14 has BREAK set and BREAK2 clear. -/
theorem resetHasInvariants : Obligations.ResetHasInvariants := by
  have hmem : State.reset.mem = [] := rfl
  refine ⟨⟨rfl, ?_⟩, ?_⟩
  · rw [hmem]
    exact nofun
  · unfold LiveBitsInv
    decide

end Sys2Proof.Machine
end

section
/-!
PROOFS. What an instruction writes. `stored` lists the stores of an instruction by its mnemonic; `Handler.writes` lists
them by its handler, and `exec_wrote` says that an instruction that answers has made exactly these writes, in order. The
laws of a write then give what every step keeps of memory.
-/

namespace Sys2Proof.Machine

open Sys2Proof.Claim

variable {s t u : State} {l : List (Addr × Byte)}

/-! ### A run of writes -/

/-- The two states agree but for the registers. -/
structure SameMemory (s t : State) : Prop where
  cfg : t.cfg = s.cfg
  mem : t.mem = s.mem

theorem SameMemory.refl (s : State) : SameMemory s s := ⟨rfl, rfl⟩

theorem RegistersWithin.sameMemory {m : Mnemonic} (h : RegistersWithin m s t) : SameMemory s t := ⟨h.1.cfg, h.2⟩

/-- From `s` to `t` memory has changed by the listed writes, in order; of the registers nothing is said. -/
inductive Wrote : List (Addr × Byte) → State → State → Prop
  | nil {s t : State} : SameMemory s t → Wrote [] s t
  | cons {s s' u t : State} {a : Addr} {v : Byte} {l : List (Addr × Byte)} :
    SameMemory s s' → memWrite s' a v = .ok u → Wrote l u t → Wrote ((a, v) :: l) s t

theorem Wrote.of_memWrite {a : Addr} {v : Byte} (h : memWrite s a v = .ok t) : Wrote [(a, v)] s t :=
  .cons (.refl s) h (.nil (.refl t))

theorem Wrote.of_push8 {v : Byte} (h : push8 v s = .ok t) : Wrote [(stackAt s.sp, v)] s t := by
  obtain ⟨u, hu, rfl⟩ := push8_ok h
  exact .cons (.refl s) hu (.nil ⟨rfl, rfl⟩)

/-- JSR's two pushes (R211). -/
theorem Wrote.of_pushes {v w : Byte} (h1 : push8 v s = .ok u) (h2 : push8 w u = .ok t) :
    Wrote [(stackAt s.sp, v), (stackAt (s.sp - 1), w)] s t := by
  obtain ⟨u', hu, rfl⟩ := push8_ok h1
  obtain ⟨t', ht, rfl⟩ := push8_ok h2
  have hsp : SameMemory u' { u' with sp := s.sp - 1 } := ⟨rfl, rfl⟩
  exact .cons (.refl s) hu (.cons hsp ht (.nil ⟨rfl, rfl⟩))

theorem Wrote.setPc (h : Wrote l s t) (pc : Addr) : Wrote l s (t.setPc pc) := by
  induction h with
  | nil hsame => exact .nil ⟨hsame.cfg, hsame.mem⟩
  | cons hsame hw _ ih => exact .cons hsame hw ih

theorem memoryInv_congr (h : SameMemory s t) (hi : MemoryInv s) : MemoryInv t :=
  ⟨h.mem ▸ hi.canonical, h.mem ▸ hi.reachable⟩

theorem Wrote.memoryInv (h : Wrote l s t) (hi : MemoryInv s) : MemoryInv t := by
  induction h with
  | nil hsame => exact memoryInv_congr hsame hi
  | cons hsame hw _ ih => exact ih (memWrite_inv hw (memoryInv_congr hsame hi))

theorem Wrote.memoryKept (h : Wrote l s t) : MemoryKept l s t := by
  induction h with
  | nil hsame => exact .of_mem [] hsame.cfg hsame.mem
  | cons hsame hw _ ih =>
    exact (MemoryKept.of_mem [] hsame.cfg hsame.mem).append ((MemoryKept.of_memWrite hw).append ih)

theorem memWrite_wf {a : Addr} {v : Byte} (h : memWrite s a v = .ok t) (hwf : Memory.wf s.mem = true) :
    Memory.wf t.mem = true := by
  rcases memWrite_cases h with ⟨rfl, -⟩ | ⟨x, -, rfl⟩
  · exact hwf
  · exact Memory.wf_writeCell hwf x.isLt v

/-- A RAM cell that the list writes, and writes no second time, reads at the end as the byte written. -/
theorem Wrote.memRead_ram (h : Wrote l s t) (hwf : Memory.wf s.mem = true) {a x : Addr} {v : Byte} (hmem : (a, v) ∈ l)
    (hram : route s.cfg a = .device .ram x)
    (honce : l.Pairwise fun e e' => route s.cfg e.1 = .device .ram x → ¬ sameCell s.cfg e'.1 e.1) :
    memRead t a = .ok v := by
  induction h with
  | nil => cases hmem
  | @cons s s' u t b w l hsame hw hrest ih =>
    obtain ⟨hhead, htail⟩ := List.pairwise_cons.1 honce
    rw [← hsame.cfg] at hram hhead htail
    rw [← hsame.mem] at hwf
    have hcfg : u.cfg = s'.cfg := by rw [memWrite_only_mem hw]
    rcases List.mem_cons.1 hmem with heq | hmem
    · obtain ⟨rfl, rfl⟩ := Prod.mk.inj heq
      have hkept : memRead t a = memRead u a := hrest.memoryKept.read a fun e he => hcfg ▸ hhead e he hram
      rw [hkept, memRead_memWrite_same hwf hw hram rfl]
    · exact ih (memWrite_wf hw hwf) hmem (hcfg ▸ hram) (hcfg ▸ htail)

/-! ### The writes of a handler -/

/-- What a handler writes, address and byte, in order. -/
def Handler.writes (h : Handler) (i : Instr) (s : State) : List (Addr × Byte) :=
  match h with
  | .stores value =>
    match effectiveAddress i.operand s with
    | .ok a => [(a, value s)]
    | .error _ => []
  | .modifies modify _ =>
    match effectiveAddress i.operand s with
    | .ok a => [(a, (modify (peek s a) s).1)]
    | .error _ => []
  | .pushes value => [(stackAt s.sp, value s)]
  | .calls => [(stackAt s.sp, highByte (s.pc + 2)), (stackAt (s.sp - 1), lowByte (s.pc + 2))]
  | _ => []

theorem peek_of_memRead {a : Addr} {v : Byte} (h : memRead s a = .ok v) : peek s a = v := by
  simp only [peek, h]

theorem Handler.WritesWithin.wrote {m : Mnemonic} {h : Handler} {i : Instr} (hw : h.WritesWithin m)
    (hd : h.Does i s u) : Wrote (h.writes i s) s u := by
  cases h with
  | acts effect =>
    rw [hd]
    exact .nil (hw s).sameMemory
  | reads effect =>
    obtain ⟨v, -, rfl⟩ := hd
    exact .nil (hw v s).sameMemory
  | stores value =>
    obtain ⟨a, ha, hu⟩ := hd
    simp only [Handler.writes, ha]
    exact .of_memWrite hu
  | modifies modify after =>
    obtain ⟨hmodify, hafter⟩ := hw
    obtain ⟨a, v, w, ha, hv, hu, rfl⟩ := hd
    simp only [Handler.writes, ha, peek_of_memRead hv]
    exact .cons (hmodify v s).sameMemory hu (.nil (hafter _ w).sameMemory)
  | pushes value => exact .of_push8 hd
  | pulls effect =>
    obtain ⟨-, he⟩ := hw
    obtain ⟨v, w, hp, rfl⟩ := hd
    obtain ⟨-, rfl⟩ := pull8_ok hp
    exact .nil ⟨(he v _).1.cfg, (he v _).2⟩
  | branches _ _ | jumps _ =>
    rw [hd]
    exact .nil (.refl s)
  | calls =>
    obtain ⟨w, h1, h2⟩ := hd
    exact .of_pushes h1 h2
  | returns body =>
    obtain ⟨assigned, hu⟩ := hd
    exact .nil (hw s u assigned hu).sameMemory
  | unhandled => exact hd.elim

/-! ### The writes of a handler are what the instruction stores -/

theorem shiftLeft_result (v : Byte) (c : Bool) : (shiftLeft v c).result = shiftedLeft v 0 := by
  simp only [shiftLeft, shiftedLeft]
  bv_omega

theorem shiftRight_result (v : Byte) (c : Bool) : (shiftRight v c).result = shiftedRight v 0 := by
  simp only [shiftRight, shiftedRight]
  bv_omega

theorem rotateLeft_result (v : Byte) (c : Bool) : (rotateLeft v c).result = shiftedLeft v c.toNat := by
  revert v c
  decide

theorem rotateRight_result (v : Byte) (c : Bool) : (rotateRight v c).result = shiftedRight v c.toNat := by
  revert v c
  decide

theorem operandHandler_writes (m : Mnemonic) {i : Instr} {a : Addr} (ha : effectiveAddress i.operand s = .ok a) :
    (operandHandler m).writes i s = (storedByte m (peek s a) s).toList.map fun v => (a, v) := by
  cases m <;>
    simp [operandHandler, Handler.writes, ha, storedByte, shiftStep, carry, shiftLeft_result, shiftRight_result,
      rotateLeft_result, rotateRight_result]

theorem operandHandler_writes_of_error (m : Mnemonic) {i : Instr} {f : Fault}
    (ha : effectiveAddress i.operand s = .error f) : (operandHandler m).writes i s = [] := by
  cases m <;> simp [operandHandler, Handler.writes, ha]

/-- The instructions that push, and no others, store elsewhere than at an effective address. -/
theorem stored_of_not_pushing {i : Instr} (hm : i.mnemonic ∉ [Mnemonic.PHA, .PHP, .BRK, .JSR]) {a : Addr}
    (ha : effectiveAddress i.operand s = .ok a) :
    stored i s = (storedByte i.mnemonic (peek s a) s).toList.map fun v => (a, v) := by
  unfold stored
  split
  case h_5 => simp only [ha]; rfl
  all_goals rename_i h; simp [h] at hm

theorem stored_of_error {i : Instr} (hm : i.mnemonic ∉ [Mnemonic.PHA, .PHP, .BRK, .JSR]) {f : Fault}
    (ha : effectiveAddress i.operand s = .error f) : stored i s = [] := by
  unfold stored
  split
  case h_5 => simp only [ha]
  all_goals rename_i h; simp [h] at hm

theorem not_pushing_of_operand {i : Instr} (ho : i.operand ≠ .noneAddressing) :
    i.mnemonic ∉ [Mnemonic.PHA, .PHP, .BRK, .JSR] := by
  have hsome : (operandMeaning i.mnemonic).isSome := operandMeaning_isSome ho
  intro hm
  simp only [List.mem_cons, List.not_mem_nil, or_false] at hm
  rcases hm with hm | hm | hm | hm <;> simp [hm, operandMeaning] at hsome

theorem stored_eq_writes (i : Instr) (s : State) : stored i s = (handler i).writes i s := by
  unfold handler
  split
  case h_1 h _ ht =>
    unfold transferHandler at ht
    split at ht <;> cases ht <;> rfl
  case h_2 ho =>
    cases hm : i.mnemonic <;> simp [stored, hm, ho, effectiveAddress, impliedHandler, Handler.writes, pushedStatus]
  case h_3 ho =>
    have hm : i.mnemonic ∉ [Mnemonic.PHA, .PHP, .BRK, .JSR] := not_pushing_of_operand ho
    cases ha : effectiveAddress i.operand s with
    | ok a => rw [stored_of_not_pushing hm ha, operandHandler_writes _ ha]
    | error f => rw [stored_of_error hm ha, operandHandler_writes_of_error _ ha]

/-- An instruction that answers has made the writes `stored` lists, in order. -/
theorem exec_wrote {i : Instr} (h : exec i s = .next t) : Wrote (stored i s) s t := by
  obtain ⟨u, pc, hd, rfl⟩ := exec_next h
  rw [stored_eq_writes]
  exact ((handler_within i).wrote hd).setPc pc

/-- Settles O56: a step that answers has made a run of writes, and every write keeps the invariant. -/
theorem stepKeepsMemoryInvariant : Obligations.StepKeepsMemoryInvariant := by
  intro s t hs h
  rcases step_cases s with ⟨f, -, hf⟩ | ⟨i, -, hi⟩
  · rw [hf] at h
    cases h
  · rw [hi] at h
    exact (exec_wrote h).memoryInv hs

end Sys2Proof.Machine
end

section
/-!
PROOFS. The bus (R50 to R66): which device an address is routed to, what an access does there, the mirrors of the two
windows, the wide accesses, and `attach`.
-/

namespace Sys2Proof.Machine

open Sys2Proof.Claim

variable {s : State} {a b : Addr}

/-! ### An access by its route -/

theorem memRead_of_device {d : Device} {x : Addr} (h : route s.cfg a = .device d x) :
    memRead s a = .ok (deviceRead s.mem d x) := by
  simp only [memRead, h]

theorem memWrite_of_device {d : Device} {x : Addr} (h : route s.cfg a = .device d x) (v : Byte) :
    memWrite s a v = (deviceWrite s.mem d x v).map fun m => { s with mem := m } := by
  simp only [memWrite, h]

theorem memRead_of_unmapped (h : route s.cfg a = .unmapped) : memRead s a = .ok 0x00 := by
  simp only [memRead, h]

theorem memWrite_of_unmapped (h : route s.cfg a = .unmapped) (v : Byte) : memWrite s a v = .ok s := by
  simp only [memWrite, h]

theorem memRead_of_ppuAbsent (h : route s.cfg a = .ppuAbsent) : memRead s a = .error (.ppuAccess a) := by
  simp only [memRead, h]

theorem memWrite_of_ppuAbsent (h : route s.cfg a = .ppuAbsent) (v : Byte) :
    memWrite s a v = .error (.ppuAccess a) := by
  simp only [memWrite, h]

/-- Addresses that name one cell are read and written alike; a fatal access would carry the address itself. -/
theorem access_congr_of_sameCell (h : sameCell s.cfg a b) (hne : route s.cfg a ≠ .ppuAbsent) (v : Byte) :
    memRead s a = memRead s b ∧ memWrite s a v = memWrite s b v := by
  have hb : route s.cfg b = route s.cfg a := h.symm
  unfold memRead memWrite
  rw [hb]
  cases hr : route s.cfg a with
  | device d x => exact ⟨rfl, rfl⟩
  | unmapped => exact ⟨rfl, rfl⟩
  | ppuAbsent => exact absurd hr hne

/-! ### Routing -/

theorem route_ramWindow (cfg : Config) (h : a ≤ 0x1FFF) : route cfg a = regionRoute cfg.regions (a &&& 0x07FF) := by
  rw [route, if_pos h]

theorem route_ppuWindow (cfg : Config) (hlo : 0x2000 ≤ a) (hhi : a ≤ 0x3FFF) :
    route cfg a = ppuRoute cfg.ppuDevice (a &&& 0x2007) := by
  have h : ¬ a ≤ 0x1FFF := by bv_omega
  rw [route, if_neg h, if_pos hhi]

theorem route_outside (cfg : Config) (h : a < 0x2000 ∨ 0x3FFF < a) :
    route cfg a = regionRoute cfg.regions (lookedUp a) := by
  by_cases hlo : a < 0x2000
  · rw [lookedUp, if_pos hlo, route_ramWindow cfg (by bv_omega)]
  · have h1 : ¬ a ≤ 0x1FFF := by bv_omega
    have h2 : ¬ a ≤ 0x3FFF := by bv_omega
    rw [lookedUp, if_neg hlo, route, if_neg h1, if_neg h2]

theorem covers_iff {r : Region} : Region.covers r a = true ↔ r.first ≤ a ∧ a ≤ r.last := by
  simp only [Region.covers, Bool.and_eq_true, decide_eq_true_eq]

theorem regionRoute_of_none {rs : List Region} (h : ∀ r ∈ rs, ¬ (r.first ≤ a ∧ a ≤ r.last)) :
    regionRoute rs a = .unmapped := by
  have hfind : rs.find? (fun r => Region.covers r a) = none :=
    List.find?_eq_none.2 fun r hr => mt covers_iff.1 (h r hr)
  rw [regionRoute, hfind]

/-- The first region in attach order that covers the address answers (R55). -/
theorem regionRoute_of_first {before after : List Region} {r : Region}
    (hbefore : ∀ q ∈ before, ¬ (q.first ≤ a ∧ a ≤ q.last)) (hr : r.first ≤ a ∧ a ≤ r.last) :
    regionRoute (before ++ r :: after) a = .device r.device a := by
  have hskip : ∀ q ∈ before, (!Region.covers q a) = true := fun q hq => by
    rw [Bool.not_eq_true', Bool.eq_false_iff]
    exact mt covers_iff.1 (hbefore q hq)
  have hfind : (before ++ r :: after).find? (fun q => Region.covers q a) = some r :=
    List.find?_eq_some_iff_append.2 ⟨covers_iff.2 hr, before, after, rfl, hskip⟩
  rw [regionRoute, hfind]

/-! ### The masks of the two windows -/

theorem ramMask_toNat (a : Addr) : (a &&& 0x07FF).toNat = a.toNat % 0x0800 :=
  (BitVec.toNat_and a 0x07FF).trans (Nat.and_two_pow_sub_one_eq_mod a.toNat 11)

theorem ppuMask_toNat (hlo : 0x2000 ≤ a) (hhi : a ≤ 0x3FFF) : (a &&& 0x2007).toNat = 0x2000 + a.toNat % 8 := by
  have hbit : a.toNat.testBit 13 = true := by
    have hdiv : a.toNat / 2 ^ 13 = 1 := by bv_omega
    rw [Nat.testBit_eq_decide_div_mod_eq, hdiv]
    rfl
  calc (a &&& 0x2007).toNat
    _ = a.toNat &&& (2 ^ 13 ||| (2 ^ 3 - 1)) := BitVec.toNat_and a 0x2007
    _ = 2 ^ 13 ||| a.toNat % 2 ^ 3 := by
      rw [Nat.and_or_distrib_left, Nat.and_two_pow_sub_one_eq_mod, Nat.and_two_pow, hbit]; rfl
    _ = 2 ^ 13 + a.toNat % 2 ^ 3 := (Nat.two_pow_add_eq_or_of_lt (by omega : a.toNat % 2 ^ 3 < 2 ^ 13) 1).symm

theorem ppuMask_eq (hlo : 0x2000 ≤ a) (hhi : a ≤ 0x3FFF) : a &&& 0x2007 = BitVec.ofNat 16 (0x2000 + a.toNat % 8) := by
  have hlt : 0x2000 + a.toNat % 8 < 2 ^ 16 := by omega
  apply BitVec.eq_of_toNat_eq
  rw [ppuMask_toNat hlo hhi, BitVec.toNat_ofNat, Nat.mod_eq_of_lt hlt]

theorem sameCell_ramWindow (cfg : Config) (ha : a ≤ 0x1FFF) (hb : b ≤ 0x1FFF)
    (h : a.toNat % 0x0800 = b.toNat % 0x0800) : sameCell cfg a b := by
  have hmask : a &&& 0x07FF = b &&& 0x07FF := BitVec.eq_of_toNat_eq (by rw [ramMask_toNat, ramMask_toNat, h])
  rw [sameCell, route_ramWindow cfg ha, route_ramWindow cfg hb, hmask]

theorem sameCell_ppuWindow (cfg : Config) (ha : 0x2000 ≤ a) (ha' : a ≤ 0x3FFF) (hb : 0x2000 ≤ b) (hb' : b ≤ 0x3FFF)
    (h : a.toNat % 8 = b.toNat % 8) : sameCell cfg a b := by
  rw [sameCell, route_ppuWindow cfg ha ha', route_ppuWindow cfg hb hb', ppuMask_eq ha ha', ppuMask_eq hb hb', h]

/-! ### The obligations on byte accesses -/

/-- Settles O45, by the two laws of a read after a write. -/
theorem readAfterWrite : Obligations.ReadAfterWrite :=
  fun _ _ _ _ _ _ hwf hw => ⟨memRead_memWrite_same hwf hw, memRead_memWrite_other hw⟩

/-- Settles O46: each mask depends on the address modulo the size of the window alone. -/
theorem windowsMirror : Obligations.WindowsMirror := by
  intro s a b v
  refine ⟨fun ha hb h => ?_, fun ha ha' hb hb' h hppu => ?_⟩
  · refine access_congr_of_sameCell (sameCell_ramWindow s.cfg ha hb h) (fun habsent => ?_) v
    obtain ⟨hlo, -, -⟩ := route_ppuAbsent habsent
    bv_omega
  · refine access_congr_of_sameCell (sameCell_ppuWindow s.cfg ha ha' hb hb' h) (fun habsent => ?_) v
    obtain ⟨-, -, hnone⟩ := route_ppuAbsent habsent
    exact hppu hnone

/-- Settles O47, by the two cases of the region lookup. -/
theorem softMissReadsZero : Obligations.SoftMissReadsZero := by
  intro s a v ha
  have hroute : route s.cfg a = regionRoute s.cfg.regions (lookedUp a) := route_outside s.cfg ha
  refine ⟨fun hnone => ?_, fun before after r hregions hbefore hfirst hlast => ?_⟩
  · rw [regionRoute_of_none hnone] at hroute
    exact ⟨memRead_of_unmapped hroute, memWrite_of_unmapped hroute v⟩
  · rw [hregions, regionRoute_of_first hbefore ⟨hfirst, hlast⟩] at hroute
    refine ⟨hroute, fun hram => ?_, fun hnull => ?_⟩
    · rw [memRead_of_device hroute, memWrite_of_device hroute, hram]
      exact ⟨rfl, rfl⟩
    · rw [memRead_of_device hroute, memWrite_of_device hroute, hnull]
      exact ⟨rfl, rfl⟩

theorem fetch_of_memRead_error {f : Fault} (h : memRead s s.pc = .error f) : fetch s = .error f := by
  simp only [fetch, h]
  rfl

theorem step_of_fetch_error {f : Fault} (h : fetch s = .error f) : step s = .fault f := by
  simp only [step, h]

/-- Settles O48: in the window the route is the PPU device or its absence. -/
theorem ppuWindowIsFatal : Obligations.PpuWindowIsFatal := by
  intro s a v hlo hhi
  have hroute : route s.cfg a = ppuRoute s.cfg.ppuDevice (a &&& 0x2007) := route_ppuWindow s.cfg hlo hhi
  refine ⟨fun hnone => ?_, fun d hd => ?_⟩
  · have habsent : route s.cfg a = .ppuAbsent := by rw [hroute, hnone, ppuRoute]
    have hread : memRead s a = .error (.ppuAccess a) := memRead_of_ppuAbsent habsent
    refine ⟨hread, memWrite_of_ppuAbsent habsent v, ?_⟩
    rintro rfl
    exact step_of_fetch_error (fetch_of_memRead_error hread)
  · rw [hroute, hd, ppuRoute, ppuMask_eq hlo hhi]

theorem romRead_two (prg : Memory) (h : 0x8000 ≤ a) : romRead .two prg a = Memory.readCell prg (a.toNat - 0x8000) := by
  have hlt : ¬ a < 0x8000 := by bv_omega
  simp only [romRead, if_neg hlt]

/-- Settles O49: an access routed to a ROM device is `romRead`, or the fatal write. -/
theorem romReadsAndRefusesWrites : Obligations.RomReadsAndRefusesWrites := by
  intro s addr a pages prg v hroute
  have hread : memRead s addr = .ok (romRead pages prg a) := memRead_of_device hroute
  refine ⟨?_, ?_, ⟨_, hread⟩, memWrite_of_device hroute v⟩
  · rintro rfl
    exact hread
  · rintro rfl ha
    rw [hread, romRead_two prg ha]

/-! ### Wide accesses -/

theorem ofNat_toNat_add_one (a : Addr) : BitVec.ofNat 16 (a.toNat + 1) = a + 1 := by
  rw [BitVec.ofNat_add, BitVec.ofNat_toNat, BitVec.setWidth_eq]
  rfl

theorem joinBytes_eq_ofNat (hi lo : Byte) : joinBytes hi lo = BitVec.ofNat 16 (hi.toNat * 256 + lo.toNat) := by
  rw [← joinBytes_toNat, BitVec.ofNat_toNat, BitVec.setWidth_eq]

theorem lowByte_eq_ofNat (w : Addr) : lowByte w = BitVec.ofNat 8 w.toNat := (BitVec.ofNat_toNat 8 w).symm

theorem highByte_eq_ofNat (w : Addr) : highByte w = BitVec.ofNat 8 (w.toNat / 256) := by
  unfold highByte
  bv_omega

/-- Settles O50: both wide accesses are their two byte accesses, at `a` and `a + 1`. -/
theorem wideAccessesAreLittleEndian : Obligations.WideAccessesAreLittleEndian := by
  intro s a w lo hi
  rw [ofNat_toNat_add_one]
  refine ⟨fun hlo hhi => ?_, fun t ht => ?_⟩
  · rw [memReadWide, readPair_of_ok hlo hhi, joinBytes_eq_ofNat]
  · rw [memWriteWide, lowByte_eq_ofNat, highByte_eq_ofNat, ht]
    rfl

/-! ### Attaching a region -/

theorem any_covers_end_iff {rs : List Region} {r : Region} :
    (rs.any fun q => Region.covers q r.first || Region.covers q r.last) = true ↔
      ∃ q ∈ rs, (q.first ≤ r.first ∧ r.first ≤ q.last) ∨ (q.first ≤ r.last ∧ r.last ≤ q.last) := by
  simp only [List.any_eq_true, Bool.or_eq_true, covers_iff]

/-- Settles O51, by the two tests of `attach`. -/
theorem attachChecksEnds : Obligations.AttachChecksEnds := by
  intro rs r
  have hnot : r.first ≤ r.last → ¬ r.last < r.first := BitVec.not_lt.2
  refine ⟨fun hinv => ?_, fun hle hmeet => ?_, fun hle hfree => ?_⟩
  · rw [attach, if_pos hinv]
  · rw [attach, if_neg (hnot hle), if_pos (any_covers_end_iff.2 hmeet)]
  · have hnone : ¬ ∃ q ∈ rs, (q.first ≤ r.first ∧ r.first ≤ q.last) ∨ (q.first ≤ r.last ∧ r.last ≤ q.last) :=
      fun ⟨q, hq, h⟩ => hfree q hq h
    rw [attach, if_neg (hnot hle), if_neg (mt any_covers_end_iff.1 hnone)]

end Sys2Proof.Machine
end

section
/-!
PROOFS. A store and the next fetch (R70): no instruction writes a RAM cell twice, so the byte stored is the byte fetched.
-/

namespace Sys2Proof.Machine

open Sys2Proof.Claim

variable {s : State}

/-- An address of the stack page is handed to its device as it is. -/
theorem route_stackAt {cfg : Config} {sp : Byte} {d : Device} {x : Addr} (h : route cfg (stackAt sp) = .device d x) :
    x = stackAt sp := by
  have hwindow : stackAt sp ≤ 0x1FFF := by simp only [stackAt]; bv_omega
  have hmask : stackAt sp &&& 0x07FF = stackAt sp := by
    apply BitVec.eq_of_toNat_eq
    rw [ramMask_toNat]
    simp only [stackAt]
    bv_omega
  rw [route_ramWindow cfg hwindow, hmask] at h
  exact regionRoute_addr h

/-- The two bytes JSR pushes go to two cells, where the first is a RAM cell. -/
theorem not_sameCell_stackAt_sub_one {cfg : Config} {sp : Byte} {x : Addr}
    (h : route cfg (stackAt sp) = .device .ram x) : ¬ sameCell cfg (stackAt (sp - 1)) (stackAt sp) := by
  intro hsame
  have haddr : stackAt (sp - 1) = stackAt sp := (route_stackAt (hsame.trans h)).symm.trans (route_stackAt h)
  simp only [stackAt] at haddr
  bv_omega

/-- No instruction stores to a RAM cell twice. -/
theorem stored_once (i : Instr) (s : State) (x : Addr) :
    (stored i s).Pairwise fun e e' => route s.cfg e.1 = .device .ram x → ¬ sameCell s.cfg e'.1 e.1 := by
  rw [stored_eq_writes]
  cases handler i with
  | stores value => cases ha : effectiveAddress i.operand s <;> simp [Handler.writes, ha]
  | modifies modify after => cases ha : effectiveAddress i.operand s <;> simp [Handler.writes, ha]
  | calls => simpa [Handler.writes] using not_sameCell_stackAt_sub_one
  | pushes value => exact List.pairwise_singleton _ _
  | _ => exact .nil

theorem fetch_of_noEntry {op : Byte} (hread : memRead s s.pc = .ok op) (h : tableEntry s.cfg op = none) :
    fetch s = .error (.unhandledOpcode op s.pc) := by
  simp only [fetch, hread, bind, Except.bind, instrAt_of_none h]

/-- The instruction fetched is of the record that OPTABLE gives the byte at `PC`. -/
theorem opcode_of_fetch {op r : Byte} {j : Instr} (hread : memRead s s.pc = .ok op) (hr : tableByte s.cfg op = some r)
    (h : fetch s = .ok j) : j.opcode = r := by
  obtain ⟨op', r', hread', hr', -, rfl, -⟩ := fetch_ok h
  obtain rfl : op = op' := Except.ok.inj (hread.symm.trans hread')
  obtain rfl : r = r' := Option.some.inj (hr.symm.trans hr')
  exact opcode_build r _ _

/-- Settles O60: the writes made are the stores listed, and none of them is overwritten before the next fetch. -/
theorem storeIsSeenByNextFetch : Obligations.StoreIsSeenByNextFetch := by
  intro i s t a x v hwf h hmem hram hsame
  have hwrote : Wrote (stored i s) s t := exec_wrote h
  have hcfg : t.cfg = s.cfg := hwrote.memoryKept.cfg
  have hat : memRead t a = .ok v := hwrote.memRead_ram hwf hmem hram (stored_once i s x)
  have hread : memRead t t.pc = .ok v := by
    have hne : route t.cfg a ≠ .ppuAbsent := by rw [hcfg, hram]; exact nofun
    rw [← hat]
    exact (access_congr_of_sameCell (hcfg ▸ hsame) hne v).1.symm
  rw [← hcfg]
  refine ⟨hread, fun hnone => step_of_fetch_error (fetch_of_noEntry hread hnone), fun j r hr hj => ?_⟩
  exact opcode_of_fetch hread hr hj

end Sys2Proof.Machine
end

section
/-!
PROOFS. The decoder and the encoder (R80, R81, R82, R106 to R108). Every instruction is what the row of its opcode byte
builds of two bytes (`exists_build`); the encoder gives back the bytes the row has (`encode_build`), and the decoder
takes exactly these (`decode_ok_iff`).
-/

namespace Sys2Proof

open Sys2Proof.Claim

/-- Settles O1: the row of each opcode byte is looked up and its form filled with the bytes that follow. -/
theorem sampleWordsDecode : Obligations.SampleWordsDecode :=
  ⟨rfl, rfl, rfl, rfl, rfl, rfl, rfl, rfl, rfl, rfl, rfl, rfl⟩

/-! ### The form of an opcode byte -/

theorem OperandForm.count_le_two (form : OperandForm) : form.count ≤ 2 := by
  cases form <;> simp [OperandForm.count]

/-- A form uses only the bytes it has. -/
theorem OperandForm.build_congr (form : OperandForm) {b1 b2 c1 c2 : Byte} (h1 : 1 ≤ form.count → b1 = c1)
    (h2 : 2 ≤ form.count → b2 = c2) : form.build b1 b2 = form.build c1 c2 := by
  cases form with
  | plain i => rfl
  | byte f => rw [h1 (Nat.le_refl 1)]; rfl
  | word f => rw [h1 (Nat.le_succ 1), h2 (Nat.le_refl 2)]

/-- Every instruction is built by the row of its opcode byte, of no operand byte, one, or the two bytes of its word. -/
theorem exists_build (i : Instr) : ∃ b1 b2, i = (opRowOf i.opcode).form.build b1 b2 := by
  have hword : ∀ (f : Addr → Instr) (w : Addr), f w = f (joinBytes (highByte w) (lowByte w)) := fun f w => by
    rw [joinBytes_highByte_lowByte]
  cases i <;> first | exact ⟨0, 0, rfl⟩ | exact ⟨_, 0, rfl⟩ | exact ⟨_, _, hword _ _⟩

/-- An instruction built by a row is encoded as the opcode byte and the bytes that the row has. -/
theorem encode_build (op b1 b2 : Byte) :
    encode ((opRowOf op).form.build b1 b2) = op :: [b1, b2].take (opRowOf op).form.count := by
  have h : FormEncodes op (opRowOf op).form := opRowOf_encodes op
  cases hform : (opRowOf op).form with
  | plain i => rw [hform] at h; exact h
  | byte f => rw [hform] at h; exact h b1
  | word f =>
    rw [hform] at h
    have hw := h (joinBytes b2 b1)
    rwa [lowByte_joinBytes, highByte_joinBytes] at hw

theorem length_build (op b1 b2 : Byte) :
    ((opRowOf op).form.build b1 b2).length = 1 + (opRowOf op).form.count := by
  have hcount : min (opRowOf op).form.count 2 = (opRowOf op).form.count :=
    Nat.min_eq_left (OperandForm.count_le_two _)
  rw [Instr.length, encode_build, List.length_cons, List.length_take]
  simp only [List.length_cons, List.length_nil, hcount]
  omega

/-- The length of an instruction is set by its opcode byte (R80). -/
theorem length_eq_count (i : Instr) : i.length = 1 + (opRowOf i.opcode).form.count := by
  obtain ⟨b1, b2, h⟩ := exists_build i
  rw [← length_build i.opcode b1 b2, ← h]

theorem length_congr {i j : Instr} (h : i.opcode = j.opcode) : i.length = j.length := by
  rw [length_eq_count, length_eq_count, h]

theorem length_le_three (i : Instr) : i.length ≤ 3 := by
  have h := OperandForm.count_le_two (opRowOf i.opcode).form
  rw [length_eq_count]
  omega

/-! ### The decoder takes what the encoder gives -/

/-- The decoder takes the opcode byte and the bytes its row has, and builds the row's instruction of them. -/
theorem decode_ok_iff {bytes rest : List Byte} {i : Instr} : decode bytes = .ok (i, rest) ↔
    ∃ op b1 b2, bytes = op :: ([b1, b2].take (opRowOf op).form.count ++ rest) ∧
      i = (opRowOf op).form.build b1 b2 := by
  constructor
  · intro h
    unfold decode at h
    split at h
    case h_1 => cases h
    case h_2 op tail =>
      split at h
      case h_1 j tail hform => cases h; exact ⟨op, 0, 0, by rw [hform]; rfl, by rw [hform]; rfl⟩
      case h_2 f b1 tail hform => cases h; exact ⟨op, b1, 0, by rw [hform]; rfl, by rw [hform]; rfl⟩
      case h_3 f b1 b2 tail hform => cases h; exact ⟨op, b1, b2, by rw [hform]; rfl, by rw [hform]; rfl⟩
      case h_4 => cases h
  · rintro ⟨op, b1, b2, rfl, rfl⟩
    cases hform : (opRowOf op).form with
    | plain i => exact decode_plain hform rest
    | byte f => exact decode_byte hform b1 rest
    | word f => simp [decode, hform, OperandForm.count, OperandForm.build]

/-- With two bytes after it every opcode byte decodes. -/
theorem decode_two_bytes (op b1 b2 : Byte) (rest : List Byte) : decode (op :: b1 :: b2 :: rest) =
    .ok ((opRowOf op).form.build b1 b2, (b1 :: b2 :: rest).drop (opRowOf op).form.count) := by
  refine decode_ok_iff.2 ⟨op, b1, b2, congrArg (op :: ·) ?_, rfl⟩
  cases (opRowOf op).form <;> rfl

/-- Settles O2: an instruction is built by its row, and the decoder takes the bytes the row has. -/
theorem decodeUndoesEncode : Obligations.DecodeUndoesEncode := by
  intro i rest
  obtain ⟨b1, b2, h⟩ := exists_build i
  refine decode_ok_iff.2 ⟨i.opcode, b1, b2, ?_, h⟩
  conv_lhs => rw [h, encode_build]
  rfl

/-- Settles O3: the decoder takes the bytes a row has, and the encoder gives them back. -/
theorem encodeUndoesDecode : Obligations.EncodeUndoesDecode := by
  intro bytes rest i h
  obtain ⟨op, b1, b2, rfl, rfl⟩ := decode_ok_iff.1 h
  rw [encode_build]
  rfl

/-! ### The bytes with no table entry -/

/-- The instructions that are not well-formed are those of the twenty bytes (R107, R246). -/
theorem wellFormed_iff (i : Instr) : i.WellFormed ↔ i.opcode ∉ noEntryBytes := by
  have h : i.hasTableEntry = !noEntryBytes.contains i.opcode := by cases i <;> rfl
  simp [Instr.WellFormed, h]

theorem wellFormed_build_iff (op b1 b2 : Byte) :
    ((opRowOf op).form.build b1 b2).WellFormed ↔ (opRowOf op).entry.isSome = true := by
  rw [Instr.WellFormed, hasTableEntry_eq, opcode_build]

theorem entry_eq_none_iff (op : Byte) : (opRowOf op).entry = none ↔ op ∈ noEntryBytes := by
  have h : ((opRowOf op).form.build 0 0).WellFormed ↔ op ∉ noEntryBytes := by rw [wellFormed_iff, opcode_build]
  rw [wellFormed_build_iff] at h
  rw [← Option.not_isSome_iff_eq_none, h, not_not]

/-- Settles O4: the row of an opcode byte builds an instruction of that byte, well-formed where the row has an entry. -/
theorem twentyBytesHaveNoEntry : Obligations.TwentyBytesHaveNoEntry := by
  intro op b1 b2 rest
  have hop : ((opRowOf op).form.build b1 b2).opcode = op := opcode_build op b1 b2
  refine ⟨entry_eq_none_iff op, (opRowOf op).form.build b1 b2, ?_, hop, ?_⟩
  · rw [decode_two_bytes, length_build, Nat.add_sub_cancel_left]
  · rw [wellFormed_iff, hop]

/-! ### The record of a table row -/

/-- The length a record gives is its format's and the number of bytes its row's form has (R82). -/
theorem length_of_entry {i : Instr} {e : OpEntry} (h : i.entry = some e) :
    e.length = i.length ∧ e.length = e.format.length := by
  cases i <;> cases h <;> exact ⟨rfl, rfl⟩

/-- Settles O5: the mnemonic and the mode tag of an instruction are those of its opcode byte's record. -/
theorem tableLengthFollowsFormat : Obligations.TableLengthFollowsFormat := by
  intro i e h
  have hrow : (opRowOf i.opcode).entry = some e := h
  refine ⟨?_, ?_, length_of_entry h⟩
  · rw [mnemonic_eq_table, tableMnemonic, hrow]
  · rw [operandTag_eq_table, tableTag, hrow]

end Sys2Proof
end

section
/-!
PROOFS. The resolver (R90 to R100): the address of each mode, and that every mode but NoneAddressing has one in every
state, the pointers of the indirect modes standing in the RAM window, where no read is fatal (R54).
-/

namespace Sys2Proof.Machine

variable (s : State)

/-! ### Addresses of the zero page -/

theorem zeroPage_eq_ofNat (b : Byte) : zeroPage b = BitVec.ofNat 16 b.toNat :=
  (BitVec.ofNat_toNat 16 b).symm

theorem zeroPage_add (b c : Byte) : zeroPage (b + c) = BitVec.ofNat 16 ((b.toNat + c.toNat) % 256) := by
  rw [zeroPage_eq_ofNat, BitVec.toNat_add]

theorem zeroPage_add_one (b : Byte) : zeroPage (b + 1) = BitVec.ofNat 16 ((b.toNat + 1) % 256) :=
  zeroPage_add b 1

theorem zeroPage_lt (b : Byte) : zeroPage b < 0x2000 := by
  unfold zeroPage
  bv_omega

/-- The high byte of the pointer of Indirect_Y, with zero-page wrap and without (R99). -/
theorem indirectYHighAddr_eq_ofNat (cfg : Config) (b : Byte) :
    indirectYHighAddr cfg b = BitVec.ofNat 16 (if cfg.indyZpWrap then (b.toNat + 1) % 256 else b.toNat + 1) := by
  unfold indirectYHighAddr
  split
  · exact zeroPage_add_one b
  · rw [zeroPage_eq_ofNat, BitVec.ofNat_add]
    rfl

theorem indirectYHighAddr_lt (cfg : Config) (b : Byte) : indirectYHighAddr cfg b < 0x2000 := by
  unfold indirectYHighAddr
  split
  · exact zeroPage_lt _
  · unfold zeroPage
    bv_omega

theorem add_index_eq_ofNat (w : Addr) (v : Byte) : w + v.setWidth 16 = BitVec.ofNat 16 (w.toNat + v.toNat) := by
  bv_omega

/-! ### The indirect modes -/

/-- Indirect_X reads its pointer in the zero page and is never fatal (R98). -/
theorem effectiveAddress_izx (b : Byte) : ∃ lo hi, memRead s (zeroPage (b + s.x)) = .ok lo ∧
    memRead s (zeroPage (b + s.x + 1)) = .ok hi ∧ effectiveAddress (.izx b) s = .ok (joinBytes hi lo) := by
  obtain ⟨lo, hlo⟩ := memRead_outside (s := s) (.inl (zeroPage_lt (b + s.x)))
  obtain ⟨hi, hhi⟩ := memRead_outside (s := s) (.inl (zeroPage_lt (b + s.x + 1)))
  exact ⟨lo, hi, hlo, hhi, readPair_of_ok hlo hhi⟩

/-- Indirect_Y reads its pointer at the zero page, adds Y, and is never fatal (R99). -/
theorem effectiveAddress_izy (b : Byte) : ∃ lo hi, memRead s (zeroPage b) = .ok lo ∧
    memRead s (indirectYHighAddr s.cfg b) = .ok hi ∧
    effectiveAddress (.izy b) s = .ok (joinBytes hi lo + s.y.setWidth 16) := by
  obtain ⟨lo, hlo⟩ := memRead_outside (s := s) (.inl (zeroPage_lt b))
  obtain ⟨hi, hhi⟩ := memRead_outside (s := s) (.inl (indirectYHighAddr_lt s.cfg b))
  refine ⟨lo, hi, hlo, hhi, ?_⟩
  rw [effectiveAddress, readPair_of_ok hlo hhi]
  rfl

/-- Settles O15: the pointers lie in the zero page or, for the last of Indirect_Y without wrap, right above it. -/
theorem indirectModesFollowPointer : Obligations.IndirectModesFollowPointer := by
  intro s b
  constructor
  · obtain ⟨lo, hi, hlo, hhi, ha⟩ := effectiveAddress_izx s b
    rw [zeroPage_add] at hlo
    rw [zeroPage_add_one, BitVec.toNat_add, Nat.mod_add_mod] at hhi
    exact ⟨lo, hi, hlo, hhi, by rw [ha, joinBytes_eq_ofNat]⟩
  · obtain ⟨lo, hi, hlo, hhi, ha⟩ := effectiveAddress_izy s b
    rw [indirectYHighAddr_eq_ofNat] at hhi
    rw [zeroPage_eq_ofNat] at hlo
    exact ⟨lo, hi, hlo, hhi, by rw [ha, add_index_eq_ofNat, joinBytes_toNat]⟩

/-! ### Every mode -/

theorem exists_effectiveAddress {o : Operand} (h : o ≠ .noneAddressing) : ∃ a, effectiveAddress o s = .ok a := by
  cases o with
  | izx b => obtain ⟨lo, hi, -, -, ha⟩ := effectiveAddress_izx s b; exact ⟨_, ha⟩
  | izy b => obtain ⟨lo, hi, -, -, ha⟩ := effectiveAddress_izy s b; exact ⟨_, ha⟩
  | noneAddressing => exact absurd rfl h
  | _ => exact ⟨_, rfl⟩

/-- The operand of every mode but Immediate is the byte at its address (R90). -/
theorem operandValue_of_effectiveAddress {o : Operand} {a : Addr} (himm : ∀ v, o ≠ .imm v)
    (h : effectiveAddress o s = .ok a) : operandValue o s = memRead s a := by
  have hread : operandValue o s = (effectiveAddress o s >>= fun a => memRead s a) := by
    cases o with
    | imm v => exact absurd rfl (himm v)
    | _ => rfl
  rw [hread, h]
  rfl

/-- Settles O14, mode by mode. -/
theorem directModesGiveAddress : Obligations.DirectModesGiveAddress := by
  intro s b w
  refine ⟨rfl, rfl, congrArg Except.ok (zeroPage_eq_ofNat b), congrArg Except.ok (zeroPage_add b s.x),
    congrArg Except.ok (zeroPage_add b s.y), rfl, congrArg Except.ok (add_index_eq_ofNat w s.x),
    congrArg Except.ok (add_index_eq_ofNat w s.y), fun o himm hnone => ?_, rfl⟩
  obtain ⟨a, ha⟩ := exists_effectiveAddress s hnone
  exact ⟨a, ha, operandValue_of_effectiveAddress s himm ha⟩

end Sys2Proof.Machine
end

section
/-!
PROOFS. The fetch and the step (R83, R86, R273). The operand bytes the fetch reads are those the handler reads first
(`operandReads_eq_firstReads`), and a byte that is not read does not matter to the meaning (`exec_congr_of_unread`).
-/

namespace Sys2Proof.Machine

open Sys2Proof.Claim

variable {s : State} {i j : Instr} {op r b1 b2 : Byte}

/-! ### Branches -/

theorem branchOn_mnemonic (i : Instr) : branchOn i.mnemonic = (branchCond i).map fun c => (c.flag, c.value) := by
  cases i <;> rfl

theorem handler_of_branchCond {c : Cond} (h : branchCond i = some c) : ∃ off, handler i = .branches c off := by
  unfold branchCond at h
  split at h <;> cases h <;> exact ⟨_, rfl⟩

theorem length_of_branch {q : Flag × Bool} (h : branchOn i.mnemonic = some q) : i.length = 2 := by
  rw [branchOn_mnemonic, Option.map_eq_some_iff] at h
  obtain ⟨c, hc, -⟩ := h
  unfold branchCond at hc
  split at hc <;> cases hc <;> rfl

/-- A branch that is not taken goes on to `opaddr + 2`, whatever its offset (R200). -/
theorem exec_branch_not_taken {f : Flag} {value : Bool} (h : branchOn i.mnemonic = some (f, value))
    (hne : hasFlag s.p f ≠ value) : exec i s = .next { s with pc := s.pc + 2 } := by
  rw [branchOn_mnemonic, Option.map_eq_some_iff] at h
  obtain ⟨c, hc, hpair⟩ := h
  obtain ⟨rfl, rfl⟩ := Prod.mk.inj hpair
  obtain ⟨off, hoff⟩ := handler_of_branchCond hc
  have hfalse : c.holds s.p = false := by simpa [Cond.holds] using hne
  simp only [exec_eq_run, hoff, Handler.run, branch, hfalse]
  rfl

theorem eq_jsr_of_mnemonic (h : i.mnemonic = .JSR) : ∃ w, i = .jsr w := by
  cases i <;> first | exact ⟨_, rfl⟩ | cases h

/-! ### The bytes a handler reads first -/

theorem operandReads_eq_firstReads (i : Instr) (s : State) : operandReads i s.p = firstReads i s := by
  by_cases hjsr : i.mnemonic = .JSR
  · obtain ⟨w, rfl⟩ := eq_jsr_of_mnemonic hjsr
    rfl
  · rw [firstReads, if_neg hjsr, branchOn_mnemonic]
    unfold operandReads
    split
    case h_1 => exact absurd rfl hjsr
    case h_2 => cases branchCond i <;> simp [Cond.holds]

theorem mnemonic_congr (h : i.opcode = j.opcode) : i.mnemonic = j.mnemonic := by
  rw [mnemonic_eq_table, mnemonic_eq_table, h]

/-- How many bytes are read first is set by the opcode byte and the flags. -/
theorem firstReads_congr (h : i.opcode = j.opcode) (s : State) : firstReads i s = firstReads j s := by
  simp only [firstReads, mnemonic_congr h, length_congr h]

theorem firstReads_le_two (i : Instr) (s : State) : firstReads i s ≤ 2 := by
  have hlen := length_le_three i
  unfold firstReads
  split
  · omega
  · split
    · split <;> omega
    · omega

/-- An instruction that does not read all its operand bytes first does the same whatever they are: it is JSR, which
reads them after its pushes (R211), or a branch not taken (R200). -/
theorem exec_congr_of_unread (hop : i.opcode = j.opcode) (h : firstReads i s < i.length - 1) :
    exec i s = exec j s := by
  have hm : i.mnemonic = j.mnemonic := mnemonic_congr hop
  by_cases hjsr : i.mnemonic = .JSR
  · obtain ⟨w, rfl⟩ := eq_jsr_of_mnemonic hjsr
    obtain ⟨w', rfl⟩ := eq_jsr_of_mnemonic (hm ▸ hjsr)
    rfl
  · rw [firstReads, if_neg hjsr] at h
    split at h
    case h_1 f value hon =>
      have hne : hasFlag s.p f ≠ value := by
        intro htaken
        rw [if_pos htaken, length_of_branch hon] at h
        omega
      rw [exec_branch_not_taken hon hne, exec_branch_not_taken (hm ▸ hon) hne]
    case h_2 => omega

/-- The meaning of the instruction a row builds depends on the bytes its handler reads first alone. -/
theorem exec_build_congr {c1 c2 : Byte}
    (h1 : 1 ≤ firstReads ((opRowOf r).form.build b1 b2) s → b1 = c1)
    (h2 : 2 ≤ firstReads ((opRowOf r).form.build b1 b2) s → b2 = c2) :
    exec ((opRowOf r).form.build b1 b2) s = exec ((opRowOf r).form.build c1 c2) s := by
  have hop : ((opRowOf r).form.build b1 b2).opcode = ((opRowOf r).form.build c1 c2).opcode := by
    rw [opcode_build, opcode_build]
  by_cases hunread : firstReads ((opRowOf r).form.build b1 b2) s < ((opRowOf r).form.build b1 b2).length - 1
  · exact exec_congr_of_unread hop hunread
  · rw [length_build] at hunread
    rw [OperandForm.build_congr _ (fun h => h1 (by omega)) fun h => h2 (by omega)]

/-! ### The reads of the operand bytes -/

theorem firstOperandAddr (a : Addr) : a + 1 + BitVec.ofNat 16 0 = a + 1 := BitVec.add_zero (a + 1)

theorem secondOperandAddr (a : Addr) : a + 1 + BitVec.ofNat 16 1 = a + 2 := BitVec.add_assoc a 1 1

theorem readOperandBytes_succ (s : State) (n : Nat) : readOperandBytes s (n + 1) =
    (readOperandBytes s n >>= fun _ => discard (memRead s (s.pc + 1 + BitVec.ofNat 16 n))) := rfl

theorem readOperandBytes_ok {n : Nat} (h : ∀ k < n, ∃ v, memRead s (s.pc + 1 + BitVec.ofNat 16 k) = .ok v) :
    readOperandBytes s n = .ok () := by
  induction n with
  | zero => rfl
  | succ n ih =>
    obtain ⟨v, hv⟩ := h n (Nat.lt_succ_self n)
    rw [readOperandBytes_succ, ih fun k hk => h k (Nat.lt_succ_of_lt hk), hv]
    rfl

/-- The first fatal read is the condition met, whatever would be read after it. -/
theorem readOperandBytes_error {n k : Nat} {f : Fault}
    (hbefore : ∀ j < k, ∃ v, memRead s (s.pc + 1 + BitVec.ofNat 16 j) = .ok v)
    (hk : memRead s (s.pc + 1 + BitVec.ofNat 16 k) = .error f) (h : k < n) : readOperandBytes s n = .error f := by
  induction n with
  | zero => omega
  | succ n ih =>
    rw [readOperandBytes_succ]
    rcases Nat.lt_succ_iff_lt_or_eq.1 h with hlt | rfl
    · rw [ih hlt]
      rfl
    · rw [readOperandBytes_ok hbefore, hk]
      rfl

/-! ### The fetch -/

/-- The fetch of an opcode byte with an entry in OPTABLE: the operand bytes are read as far as the handler reads them
first, and the rest is looked at. -/
theorem fetch_of_record (hop : memRead s s.pc = .ok op) (hr : tableByte s.cfg op = some r)
    (he : (opRowOf r).entry.isSome) (b1 b2 : Byte) :
    fetch s = (readOperandBytes s (firstReads ((opRowOf r).form.build b1 b2) s)).map fun _ =>
      (opRowOf r).form.build (peek s (s.pc + 1)) (peek s (s.pc + 2)) := by
  have hsame : operandReads ((opRowOf r).form.build (peek s (s.pc + 1)) (peek s (s.pc + 2))) s.p =
      firstReads ((opRowOf r).form.build b1 b2) s := by
    rw [operandReads_eq_firstReads]
    exact firstReads_congr (by rw [opcode_build, opcode_build]) s
  simp only [fetch, hop, bind, Except.bind, instrAt_of_entry hr he, hsame]
  cases readOperandBytes s (firstReads ((opRowOf r).form.build b1 b2) s) <;> rfl

/-- A fetch that meets no fatal condition runs the instruction of the bytes its handler reads first. -/
theorem step_of_reads (hop : memRead s s.pc = .ok op) (hr : tableByte s.cfg op = some r)
    (he : (opRowOf r).entry.isSome)
    (h1 : 1 ≤ firstReads ((opRowOf r).form.build b1 b2) s → memRead s (s.pc + 1) = .ok b1)
    (h2 : 2 ≤ firstReads ((opRowOf r).form.build b1 b2) s → memRead s (s.pc + 2) = .ok b2) :
    step s = exec ((opRowOf r).form.build b1 b2) s := by
  have hread : readOperandBytes s (firstReads ((opRowOf r).form.build b1 b2) s) = .ok () := by
    have hle := firstReads_le_two ((opRowOf r).form.build b1 b2) s
    refine readOperandBytes_ok fun k hk => ?_
    match k with
    | 0 => exact ⟨b1, by rw [firstOperandAddr, h1 (by omega)]⟩
    | 1 => exact ⟨b2, by rw [secondOperandAddr, h2 (by omega)]⟩
    | k + 2 => omega
  have hfetch := fetch_of_record hop hr he b1 b2
  rw [hread] at hfetch
  rw [step_of_fetch hfetch]
  exact (exec_build_congr (fun h => (peek_of_memRead (h1 h)).symm) fun h => (peek_of_memRead (h2 h)).symm).symm

/-- A fatal read of the bytes a handler reads first is fatal to the step. -/
theorem step_of_read_error {f : Fault} (hop : memRead s s.pc = .ok op) (hr : tableByte s.cfg op = some r)
    (he : (opRowOf r).entry.isSome)
    (h : readOperandBytes s (firstReads ((opRowOf r).form.build b1 b2) s) = .error f) : step s = .fault f := by
  have hfetch := fetch_of_record hop hr he b1 b2
  rw [h] at hfetch
  exact step_of_fetch_error hfetch

/-- Settles O6: the instruction fetched and the instruction given have one opcode byte, and agree in the bytes read. -/
theorem stepRunsDecodedInstruction : Obligations.StepRunsDecodedInstruction := by
  intro s
  refine ⟨fun op r b1 b2 i rest hop hr hdecode hwf => ?_, fun f hf => step_of_fetch_error (fetch_of_memRead_error hf)⟩
  rw [decode_two_bytes] at hdecode
  obtain ⟨rfl, -⟩ := Prod.mk.inj (Except.ok.inj hdecode)
  have he : (opRowOf r).entry.isSome := (wellFormed_build_iff r b1 b2).1 hwf
  refine ⟨step_of_reads hop hr he, fun f hle hf => ?_, fun v f hle hv hf => ?_⟩
  · rw [← firstOperandAddr] at hf
    exact step_of_read_error hop hr he (readOperandBytes_error (fun _ h => absurd h (Nat.not_lt_zero _)) hf hle)
  · rw [← firstOperandAddr] at hv
    rw [← secondOperandAddr] at hf
    refine step_of_read_error hop hr he (readOperandBytes_error (fun k hk => ?_) hf hle)
    obtain rfl : k = 0 := Nat.lt_one_iff.1 hk
    exact ⟨v, hv⟩

/-- Settles O13: the record of a branch whose flag does not have the value reads no operand byte. -/
theorem branchNotTakenReadsNoOffset : Obligations.BranchNotTakenReadsNoOffset := by
  intro s op r f value hmem hop hr hne
  have hon : branchOn (tableMnemonic r) = some (f, value) ∧ tableMnemonic r ≠ .JSR ∧ (opRowOf r).entry.isSome := by
    simp only [List.mem_cons, Prod.mk.injEq, List.not_mem_nil, or_false] at hmem
    rcases hmem with ⟨rfl, rfl, rfl⟩ | ⟨rfl, rfl, rfl⟩ | ⟨rfl, rfl, rfl⟩ | ⟨rfl, rfl, rfl⟩ | ⟨rfl, rfl, rfl⟩ |
      ⟨rfl, rfl, rfl⟩ | ⟨rfl, rfl, rfl⟩ | ⟨rfl, rfl, rfl⟩ <;> exact ⟨rfl, nofun, rfl⟩
  obtain ⟨hon, hjsr, he⟩ := hon
  have hm : ((opRowOf r).form.build 0 0).mnemonic = tableMnemonic r := by rw [mnemonic_eq_table, opcode_build]
  have hnone : firstReads ((opRowOf r).form.build 0 0) s = 0 := by
    simp only [firstReads, hm, if_neg hjsr, hon, if_neg hne]
  rw [step_of_reads (b1 := 0) (b2 := 0) hop hr he (by omega) (by omega)]
  exact exec_branch_not_taken (hm ▸ hon) hne

/-! ### Bytes with no entry, and the halt -/

/-- Settles O7: a byte with no entry is fatal before any operand byte is read. -/
theorem noEntryIsFatal : Obligations.NoEntryIsFatal := by
  refine ⟨fun i s hwf => ?_, fun s op hop hnone => ?_, fun cfg op hnil => ?_, fun cfg op q e rest h => ?_⟩
  · exact exec_unhandled (unhandled_of_not_hasTableEntry (Bool.eq_false_iff.2 hwf)) s
  · exact step_of_fetch_error (fetch_of_noEntry hop hnone)
  · have hown : tableByte cfg op = some op := tableByte_nil hnil op
    rw [tableEntry, hown, Option.bind_some]
    exact ⟨rfl, entry_eq_none_iff op⟩
  · exact tableByte_cons h op

theorem atBreak_iff : atBreak s = true ↔ memRead s s.pc = .ok 0x00 := by
  unfold atBreak
  cases memRead s s.pc <;> simp

/-- Settles O8: `stepResult` tests the opcode byte of a step that goes on. -/
theorem haltExactlyOnBreak : Obligations.HaltExactlyOnBreak := by
  intro s t
  rw [← atBreak_iff]
  unfold stepResult
  cases step s with
  | next u => cases atBreak s <;> simp
  | fault f => simp
  | refused q => simp

end Sys2Proof.Machine
end

section
/-!
PROOFS. The program-counter rule (R84, R296). A handler's body gives the state it leaves and the value it assigned to
`PC`, if it assigned one. Every instruction ends its body by that rule (`exec_eq_finish`), and no body depends on the
rule's test (`Handler.TestBlind.body`).
-/

namespace Sys2Proof.Machine

open Sys2Proof.Claim

/-! ### The body of a handler -/

/-- What a handler does before the program-counter rule: the state it leaves, and the value it assigned to `PC`. -/
def Handler.body (h : Handler) (i : Instr) (s : State) : Except Fault (State × Option Addr) :=
  match h with
  | .acts effect => .ok (effect s, none)
  | .reads effect => ((operandValue i.operand s).map fun v => effect v s).map fun t => (t, none)
  | .stores value =>
    (do
      let a ← effectiveAddress i.operand s
      memWrite s a (value s) : Except Fault State).map fun t => (t, none)
  | .modifies modify after =>
    (do
      let a ← effectiveAddress i.operand s
      let v ← memRead s a
      let t ← memWrite (modify v s).2 a (modify v s).1
      return after (modify v s).1 t : Except Fault State).map fun t => (t, none)
  | .pushes value => (push8 (value s) s).map fun t => (t, none)
  | .pulls effect => ((pull8 s).map fun (v, t) => effect v t).map fun t => (t, none)
  | .branches c off => .ok (s, if c.holds s.p then some (branchTarget s.pc off) else none)
  | .jumps target => (target s).map fun a => (s, some a)
  | .calls => call s
  | .returns body => body s
  | .unhandled => .error (.unhandledOpcode i.opcode s.pc)

/-- Every instruction ends the body of its handler by the program-counter rule, with its own length. -/
theorem exec_eq_finish (i : Instr) (s : State) :
    exec i s = finish s (BitVec.ofNat 16 i.length) ((handler i).body i s) := by
  cases i <;> rfl

/-- The handlers that assign `PC`. -/
def Handler.assigns : Handler → Bool
  | .branches _ _ | .jumps _ | .calls | .returns _ => true
  | _ => false

/-- The instructions whose handler assigns `PC` are the control transfers (R84). -/
theorem assigns_handler (i : Instr) : (handler i).assigns = decide (i.mnemonic ∈ transfers) := by
  cases i <;> rfl

theorem map_none_assigned {r : Except Fault State} {u : State} {assigned : Option Addr}
    (h : (r.map fun t => (t, (none : Option Addr))) = .ok (u, assigned)) : assigned = none := by
  cases r <;> cases h
  rfl

theorem Handler.body_assigned {h : Handler} (hn : h.assigns = false) {i : Instr} {s u : State} {assigned : Option Addr}
    (hb : h.body i s = .ok (u, assigned)) : assigned = none := by
  cases h with
  | acts effect => cases hb; rfl
  | reads _ | stores _ | modifies _ _ | pushes _ | pulls _ => exact map_none_assigned hb
  | branches _ _ | jumps _ | calls | returns _ => cases hn
  | unhandled => cases hb

/-- Settles O11: only the handlers of the control transfers assign `PC`. -/
theorem plainInstructionsAdvancePc : Obligations.PlainInstructionsAdvancePc := by
  intro i s t hplain h
  have hn : (handler i).assigns = false := by rw [assigns_handler, decide_eq_false hplain]
  rw [exec_eq_finish] at h
  obtain ⟨u, assigned, hbody, rfl⟩ := finish_next h
  rw [Handler.body_assigned hn hbody]
  rfl

/-! ### The test of the rule -/

/-- The state with another test of the program-counter rule (R84). -/
def withTest (q : PcAlteredTest) (s : State) : State := { s with cfg := { s.cfg with pcAlteredTest := q } }

/-- `PC` under the two tests: they differ where the value assigned is `opaddr + 1`. -/
theorem pcAfter_withTest_value (s : State) (len : Addr) (assigned : Option Addr) :
    pcAfter (withTest .value s) len assigned =
      if pcAfter (withTest .assignment s) len assigned = s.pc + 1 then s.pc + len
      else pcAfter (withTest .assignment s) len assigned := by
  cases assigned with
  | none => exact (ite_self _).symm
  | some a => rfl

section
variable (q : PcAlteredTest) (s : State)

/-! ### The bus, the operands and the stack do not use the test -/

@[simp] theorem memRead_withTest (a : Addr) : memRead (withTest q s) a = memRead s a := rfl

@[simp] theorem memWrite_withTest (a : Addr) (v : Byte) :
    memWrite (withTest q s) a v = (memWrite s a v).map (withTest q) := by
  have hroute : route (withTest q s).cfg a = route s.cfg a := rfl
  unfold memWrite
  rw [hroute]
  cases route s.cfg a with
  | device d x => cases d <;> rfl
  | unmapped => rfl
  | ppuAbsent => rfl

@[simp] theorem effectiveAddress_withTest (o : Operand) :
    effectiveAddress o (withTest q s) = effectiveAddress o s := by
  cases o <;> rfl

@[simp] theorem operandValue_withTest (o : Operand) : operandValue o (withTest q s) = operandValue o s := by
  cases o <;> rfl

@[simp] theorem push8_withTest (v : Byte) : push8 v (withTest q s) = (push8 v s).map (withTest q) := by
  have hsp : (withTest q s).sp = s.sp := rfl
  simp only [push8, hsp, memWrite_withTest]
  cases memWrite s (stackAddr s.sp) v <;> rfl

@[simp] theorem pull8_withTest : pull8 (withTest q s) = (pull8 s).map (Prod.map id (withTest q)) := by
  have hsp : (withTest q s).sp = s.sp := rfl
  simp only [pull8, hsp, memRead_withTest]
  cases memRead s (stackAddr (s.sp + 1)) <;> rfl

@[simp] theorem push16_withTest (w : Addr) : push16 w (withTest q s) = (push16 w s).map (withTest q) := by
  simp only [push16, push8_withTest]
  cases push8 (highByte w) s with
  | error f => rfl
  | ok t => exact push8_withTest q t (lowByte w)

@[simp] theorem pull16_withTest : pull16 (withTest q s) = (pull16 s).map (Prod.map id (withTest q)) := by
  simp only [pull16, pull8_withTest]
  cases pull8 s with
  | error f => rfl
  | ok r =>
    obtain ⟨lo, t⟩ := r
    simp only [Except.map, Prod.map, bind, Except.bind, pull8_withTest]
    cases pull8 t <;> rfl

theorem rtsBody_withTest : rtsBody (withTest q s) = (rtsBody s).map (Prod.map (withTest q) id) := by
  simp only [rtsBody, pull16_withTest]
  cases pull16 s <;> rfl

theorem trapReturn_withTest : trapReturn (withTest q s) = (trapReturn s).map (Prod.map (withTest q) id) := by
  simp only [trapReturn, pull8_withTest]
  cases pull8 s with
  | error f => rfl
  | ok r =>
    obtain ⟨v, t⟩ := r
    have hstatus : (withTest q t).setStatus (restoredStatus v) = withTest q (t.setStatus (restoredStatus v)) := rfl
    simp only [Except.map, Prod.map, bind, Except.bind, id, hstatus, pull16_withTest]
    cases pull16 (t.setStatus (restoredStatus v)) <;> rfl

theorem call_withTest : call (withTest q s) = (call s).map (Prod.map (withTest q) id) := by
  have hpc : (withTest q s).pc = s.pc := rfl
  simp only [call, hpc, push16_withTest]
  cases push16 (s.pc + 2) s with
  | error f => rfl
  | ok t =>
    have hread : memReadWide (withTest q t) (s.pc + 1) = memReadWide t (s.pc + 1) := rfl
    simp only [Except.map, bind, Except.bind, hread]
    cases memReadWide t (s.pc + 1) <;> rfl

end

/-! ### Nor does the body of a handler -/

/-- A handler's functions commute with a change of the test. -/
def Handler.TestBlind (q : PcAlteredTest) : Handler → Prop
  | .acts effect => ∀ s, effect (withTest q s) = withTest q (effect s)
  | .reads effect | .pulls effect => ∀ v s, effect v (withTest q s) = withTest q (effect v s)
  | .stores value | .pushes value => ∀ s, value (withTest q s) = value s
  | .modifies modify after =>
    (∀ v s, modify v (withTest q s) = ((modify v s).1, withTest q (modify v s).2)) ∧
      ∀ r s, after r (withTest q s) = withTest q (after r s)
  | .jumps target => ∀ s, target (withTest q s) = target s
  | .returns body => ∀ s, body (withTest q s) = (body s).map (Prod.map (withTest q) id)
  | .branches _ _ | .calls | .unhandled => True

variable {q : PcAlteredTest}

theorem operandHandler_testBlind (m : Mnemonic) : (operandHandler m).TestBlind q := by
  cases m
  case INC | DEC | ASL | LSR | ROL | ROR | SLO | RLA | SRE | RRA | DCP | ISB =>
    exact ⟨fun _ _ => rfl, fun _ _ => rfl⟩
  case STA | STX | STY | SAX => exact fun _ => rfl
  case LDA | LDX | LDY | LAX | AND | ORA | EOR | ADC | SBC | CMP | CPX | CPY | BIT | NOP | ANC | ALR | ARR | AXS =>
    exact fun _ _ => rfl
  all_goals exact True.intro

theorem impliedHandler_testBlind (m : Mnemonic) : (impliedHandler m).TestBlind q := by
  cases m
  case RTS => exact rtsBody_withTest q
  case RTI => exact trapReturn_withTest q
  case PLA | PLP => exact fun _ _ => rfl
  case TAX | TAY | TXA | TYA | TSX | TXS | INX | INY | DEX | DEY | CLC | SEC | CLI | SEI | CLD | SED | CLV | PHA | PHP |
      BRK | ASL | LSR | ROL | ROR | NOP =>
    exact fun _ => rfl
  all_goals exact True.intro

theorem handler_testBlind (i : Instr) : (handler i).TestBlind q := by
  refine handler_induction (P := Handler.TestBlind q) ?_ ?_ ?_ ?_ ?_
  · exact fun _ _ _ => True.intro
  · exact fun _ _ => rfl
  · exact fun _ _ => rfl
  · exact impliedHandler_testBlind _
  · exact operandHandler_testBlind _

theorem Handler.TestBlind.body {h : Handler} (hb : h.TestBlind q) (i : Instr) (s : State) :
    h.body i (withTest q s) = (h.body i s).map (Prod.map (withTest q) id) := by
  cases h with
  | acts effect =>
    have he : effect (withTest q s) = withTest q (effect s) := hb s
    simp [Handler.body, he, Except.map]
  | reads effect =>
    have he : ∀ v, effect v (withTest q s) = withTest q (effect v s) := fun v => hb v s
    simp only [Handler.body, operandValue_withTest, he]
    cases operandValue i.operand s <;> rfl
  | stores value =>
    have hv : value (withTest q s) = value s := hb s
    simp only [Handler.body, effectiveAddress_withTest, hv, memWrite_withTest]
    cases effectiveAddress i.operand s with
    | error f => rfl
    | ok a =>
      simp only [bind, Except.bind]
      cases memWrite s a (value s) <;> rfl
  | modifies modify after =>
    obtain ⟨hm, ha⟩ := hb
    simp only [Handler.body, effectiveAddress_withTest, memRead_withTest, hm, memWrite_withTest]
    cases effectiveAddress i.operand s with
    | error f => rfl
    | ok a =>
      simp only [bind, Except.bind]
      cases memRead s a with
      | error f => rfl
      | ok v =>
        dsimp only
        cases memWrite (modify v s).2 a (modify v s).1 <;> simp [Except.map, pure, Except.pure, ha]
  | pushes value =>
    have hv : value (withTest q s) = value s := hb s
    simp only [Handler.body, hv, push8_withTest]
    cases push8 (value s) s <;> rfl
  | pulls effect =>
    have he : ∀ v t, effect v (withTest q t) = withTest q (effect v t) := hb
    simp only [Handler.body, pull8_withTest]
    cases pull8 s <;> simp [Except.map, he]
  | branches c off => rfl
  | jumps target =>
    have ht : target (withTest q s) = target s := hb s
    simp only [Handler.body, ht]
    cases target s <;> rfl
  | calls => exact call_withTest q s
  | returns body => exact hb s
  | unhandled => rfl

/-- An instruction under either test ends one and the same body. -/
theorem exec_withTest (q : PcAlteredTest) (i : Instr) (s : State) : exec i (withTest q s) =
    finish (withTest q s) (BitVec.ofNat 16 i.length) (((handler i).body i s).map (Prod.map (withTest q) id)) := by
  rw [exec_eq_finish, (handler_testBlind i).body]

/-- Settles O12: the body is the same under both tests, and then the two values of `PC` are compared. -/
theorem pcTestsAgreeOffTheHazard : Obligations.PcTestsAgreeOffTheHazard := by
  intro i s t h
  change exec i (withTest .assignment s) = .next t at h
  change exec i (withTest .value s) = _
  rw [exec_withTest] at h ⊢
  cases hbody : (handler i).body i s with
  | error f => rw [hbody] at h; cases h
  | ok r =>
    obtain ⟨u, assigned⟩ := r
    rw [hbody] at h
    cases h
    have hpc := pcAfter_withTest_value s (BitVec.ofNat 16 i.length) assigned
    exact congrArg (fun pc => Host.Outcome.next ((withTest .value u).setPc pc)) hpc

end Sys2Proof.Machine
end

section
/-!
PROOFS. The shapes the statements per mnemonic share. A mnemonic's Encoding line is what one pass over the
table finds (`encodedAs_encodingLine`), and the tables of handlers then give `Reads`, `Stores` and `ActsAs` from the
mnemonic alone.
-/

namespace Sys2Proof.Machine

open Sys2Proof.Claim

variable {m : Mnemonic} {rows : List (Byte × ModeTag)}

/-! ### Encoding lines -/

/-- The Encoding line of a mnemonic: its opcode bytes in the table, each with its mode tag. -/
def encodingLine (m : Mnemonic) : List (Byte × ModeTag) :=
  opTable.zipIdx.filterMap fun (r, n) =>
    (r.entry.filter fun e => e.mnemonic = m).map fun e => (BitVec.ofNat 8 n, e.mode)

/-- The row of an opcode byte is the table's row at its index. -/
theorem opTable_getElem?_iff {op : Byte} {r : OpRow} : opTable[op.toNat]? = some r ↔ opRowOf op = r := by
  have hlt : op.toNat < opTable.length := by rw [opTable_length]; exact op.isLt
  rw [opRowOf, List.getD_eq_getElem?_getD, List.getElem?_eq_getElem hlt]
  exact Option.some_inj

theorem mem_encodingLine {op : Byte} {t : ModeTag} :
    (op, t) ∈ encodingLine m ↔ ∃ e, (opRowOf op).entry = some e ∧ e.mnemonic = m ∧ e.mode = t := by
  simp only [encodingLine, List.mem_filterMap, Option.map_eq_some_iff, Option.filter_eq_some_iff, decide_eq_true_eq,
    Prod.mk.injEq, Prod.exists, List.mk_mem_zipIdx_iff_getElem?]
  constructor
  · rintro ⟨r, n, hr, e, ⟨he, hm⟩, rfl, ht⟩
    have hn : n < 256 := by rw [← opTable_length]; exact (List.getElem?_eq_some_iff.1 hr).1
    have hrow : opRowOf (BitVec.ofNat 8 n) = r :=
      opTable_getElem?_iff.1 (by rw [BitVec.toNat_ofNat, Nat.mod_eq_of_lt hn, hr])
    exact ⟨e, by rw [hrow, he], hm, ht⟩
  · rintro ⟨e, he, hm, ht⟩
    exact ⟨_, op.toNat, opTable_getElem?_iff.2 rfl, e, ⟨he, hm⟩, BitVec.ofNat_toNat 8 op, ht⟩

/-- An instruction's mnemonic and mode tag are those of its opcode byte's record, so the table's line is exact. -/
theorem encodedAs_encodingLine (hm : m ≠ .unhandled) : EncodedAs m (encodingLine m) := by
  intro i
  rw [mem_encodingLine, mnemonic_eq_table, operandTag_eq_table, tableMnemonic, tableTag]
  cases (opRowOf i.opcode).entry with
  | none => simpa using hm.symm
  | some e => simp

theorem encodedAs_of_encodingLine (hm : m ≠ .unhandled) (h : encodingLine m = rows) : EncodedAs m rows :=
  h ▸ encodedAs_encodingLine hm

/-- A mode tag is `NoneAddressing` for the operand of that name alone. -/
theorem operandTag_eq_noneAddressing_iff {o : Operand} : operandTag o = .noneAddressing ↔ o = .noneAddressing := by
  cases o <;> simp [operandTag]

/-- A mnemonic whose Encoding line has no `NoneAddressing` has an operand in every form. -/
theorem operand_ne_of_encodedAs (henc : EncodedAs m rows) (htags : ∀ r ∈ rows, r.2 ≠ .noneAddressing) {i : Instr}
    (hi : i.mnemonic = m) : i.operand ≠ .noneAddressing :=
  fun ho => htags _ ((henc i).1 hi) (operandTag_eq_noneAddressing_iff.2 ho)

/-- A mnemonic whose Encoding line has `NoneAddressing` only has no operand in any form. -/
theorem operand_eq_of_encodedAs (henc : EncodedAs m rows) (htags : ∀ r ∈ rows, r.2 = .noneAddressing) {i : Instr}
    (hi : i.mnemonic = m) : i.operand = .noneAddressing :=
  operandTag_eq_noneAddressing_iff.1 (htags _ ((henc i).1 hi))

/-! ### The handler of a form -/

theorem handler_of_operand {i : Instr} (ho : i.operand ≠ .noneAddressing) : handler i = operandHandler i.mnemonic := by
  cases i <;> first | rfl | exact absurd rfl ho

/-- A form without an operand has its mnemonic's handler, if there is one: a branch or a JMP has none. -/
theorem handler_of_implied {i : Instr} (ho : i.operand = .noneAddressing)
    (hm : impliedHandler i.mnemonic ≠ .unhandled) : handler i = impliedHandler i.mnemonic := by
  unfold handler
  rw [ho]
  cases ht : transferHandler i with
  | none => rfl
  | some h =>
    unfold transferHandler at ht
    split at ht
    case h_11 => cases ht
    all_goals exact absurd rfl hm

/-! ### The shapes -/

theorem storeAt_error {o : Operand} {s : State} {v : Byte} {f : Fault}
    (h : (do let a ← effectiveAddress o s; memWrite s a v) = .error f) : storeAt o v s = .fault f := by
  rw [storeAt, h, advance_error]

/-- An instruction with an operand ends at the next instruction. -/
theorem add_operandSize_eq_nextPc {i : Instr} (ho : i.operand ≠ .noneAddressing) (s : State) :
    s.pc + operandSize i.operand = nextPc i s := by
  rw [nextPc, length_of_operand ho]

/-- A mnemonic of reading forms has the effect of its handler. -/
theorem reads_of_operandHandler {f effect : Byte → State → State} (hline : encodingLine m = rows)
    (htags : ∀ r ∈ rows, r.2 ≠ .noneAddressing) (hm : operandHandler m = .reads f)
    (hf : ∀ v s, f v s = effect v s) : Reads m rows effect := by
  have henc : EncodedAs m rows := encodedAs_of_encodingLine (by rintro rfl; cases hm) hline
  refine ⟨henc, fun i s hi => ?_⟩
  have ho : i.operand ≠ .noneAddressing := operand_ne_of_encodedAs henc htags hi
  have hexec : exec i s = withOperand i.operand f s := by
    rw [exec_eq_run, handler_of_operand ho, hi, hm, Handler.run]
  refine ⟨fun v hv => ?_, fun e he => ?_⟩
  · rw [hexec, withOperand_ok hv, add_operandSize_eq_nextPc ho, hf]
    rfl
  · rw [hexec, withOperand_error he]

/-- A mnemonic of storing forms stores the value of its handler. -/
theorem stores_of_operandHandler {value : State → Byte} (hline : encodingLine m = rows)
    (htags : ∀ r ∈ rows, r.2 ≠ .noneAddressing) (hm : operandHandler m = .stores value) : Stores m rows value := by
  have henc : EncodedAs m rows := encodedAs_of_encodingLine (by rintro rfl; cases hm) hline
  refine ⟨henc, fun i s hi => ?_⟩
  have ho : i.operand ≠ .noneAddressing := operand_ne_of_encodedAs henc htags hi
  have hexec : exec i s = storeAt i.operand (value s) s := by
    rw [exec_eq_run, handler_of_operand ho, hi, hm, Handler.run]
  refine ⟨fun a t ha ht => ?_, fun e he => ?_⟩
  · rw [hexec, storeAt_ok ha ht, add_operandSize_eq_nextPc ho]
    rfl
  · rw [hexec, storeAt_error he]

/-- A mnemonic of one form on registers and flags has the effect of its handler. -/
theorem actsAs_of_impliedHandler {op : Byte} {f effect : State → State}
    (hline : encodingLine m = [(op, .noneAddressing)]) (hm : impliedHandler m = .acts f)
    (hf : ∀ s, f s = effect s) : ActsAs m op effect := by
  have henc : EncodedAs m [(op, .noneAddressing)] := encodedAs_of_encodingLine (by rintro rfl; cases hm) hline
  refine ⟨henc, fun i s hi => ?_⟩
  have ho : i.operand = .noneAddressing := operand_eq_of_encodedAs henc (by simp) hi
  have hacts : impliedHandler i.mnemonic = .acts f := by rw [hi, hm]
  rw [exec_eq_run, handler_of_implied ho (by rw [hacts]; nofun), hacts, Handler.run, registerOnly, advance_ok, hf]
  rfl

end Sys2Proof.Machine
end

section
/-!
PROOFS. Loads, stores and transfers (R121 to R132). A load or a transfer is `loadReg` of its register, which sets Z and
N as the exact arithmetic of `zn` says; TXS alone is a plain copy.
-/

namespace Sys2Proof.Machine

open Sys2Proof.Claim

/-- `setZN` sets N where the byte is at least 128 and Z where it is 0. -/
theorem statusZN_eq_zn (v p : Byte) : statusZN v p = zn v p := by
  have hn : v.getLsbD 7 = decide (128 ≤ v.toNat) := BitVec.msb_eq_decide v
  have hz : (v == 0x00) = decide (v.toNat = 0) := decide_eq_decide.2 BitVec.toNat_inj.symm
  rw [statusZN, zn, hn, hz]

/-- What a load or a transfer leaves: the register written, Z and N from its byte, and the rest as before. -/
theorem loadReg_eq (r : Reg) (v : Byte) (s : State) : loadReg r v s = { s.setReg r v with p := zn v s.p } := by
  rw [loadReg, setZN, statusZN_eq_zn, setReg_p]

/-- Settles O16: each mnemonic's handler is `loadReg` of its register. -/
theorem loadsSetRegisterZN : Obligations.LoadsSetRegisterZN :=
  ⟨reads_of_operandHandler (by decide +kernel) (by decide) rfl (loadReg_eq .a),
    reads_of_operandHandler (by decide +kernel) (by decide) rfl (loadReg_eq .x),
    reads_of_operandHandler (by decide +kernel) (by decide) rfl (loadReg_eq .y)⟩

/-- Settles O17: each mnemonic's handler is `storeAt` of its register, which does not read the target. -/
theorem storesWriteRegister : Obligations.StoresWriteRegister :=
  ⟨stores_of_operandHandler (by decide +kernel) (by decide) rfl,
    stores_of_operandHandler (by decide +kernel) (by decide) rfl,
    stores_of_operandHandler (by decide +kernel) (by decide) rfl⟩

/-- Settles O18: each handler is `loadReg` of the source, but that of TXS, which writes SP alone (D20). -/
theorem transfersCopyRegister : Obligations.TransfersCopyRegister :=
  ⟨actsAs_of_impliedHandler (by decide +kernel) rfl fun s => loadReg_eq .x s.a s,
    actsAs_of_impliedHandler (by decide +kernel) rfl fun s => loadReg_eq .y s.a s,
    actsAs_of_impliedHandler (by decide +kernel) rfl fun s => loadReg_eq .a s.x s,
    actsAs_of_impliedHandler (by decide +kernel) rfl fun s => loadReg_eq .a s.y s,
    actsAs_of_impliedHandler (by decide +kernel) rfl fun s => loadReg_eq .x s.sp s,
    actsAs_of_impliedHandler (by decide +kernel) rfl fun _ => rfl⟩

end Sys2Proof.Machine
end

section
/-!
PROOFS. The shape of the read-modify-write statements. What a handler sets in the status register before its write does
not meet the write (`memWrite_setStatus`), so `ModifiesWhen` and `Modifies` follow from what the handler's two functions
do to registers and flags.
-/

namespace Sys2Proof.Machine

open Sys2Proof.Claim

variable {modify : Byte → State → Byte × State} {after : Byte → State → State}

theorem memWrite_setStatus (s : State) (p : Byte) (a : Addr) (v : Byte) :
    memWrite (s.setStatus p) a v = (memWrite s a v).map fun t => t.setStatus p := by
  rw [memWrite_congr (s := s) (s' := s.setStatus p) rfl rfl]
  cases h : memWrite s a v with
  | error f => rfl
  | ok t =>
    rw [memWrite_only_mem h]
    rfl

/-- A fatal address, read or write of a read-modify-write instruction is fatal in the same way. -/
theorem readModifyWrite_error {o : Operand} {s : State} {f : Fault} {result status : Byte → Byte}
    (hmodify : ∀ v, modify v s = (result v, s.setStatus (status v)))
    (h : (do
      let a ← effectiveAddress o s
      let v ← memRead s a
      memWrite s a (result v)) = .error f) : readModifyWrite o modify after s = .fault f := by
  simp only [readModifyWrite, hmodify, memWrite_setStatus]
  cases ha : effectiveAddress o s with
  | error e =>
    rw [ha] at h
    cases h
    rfl
  | ok a =>
    simp only [ha, bind, Except.bind] at h ⊢
    cases hv : memRead s a with
    | error e =>
      rw [hv] at h
      cases h
      rfl
    | ok v =>
      simp only [hv] at h ⊢
      rw [h]
      rfl

/-- Forms whose handler modifies: `status` is what `modify` leaves in P before the write, `newA` and `newP` are what
`after` leaves in A and P. -/
theorem modifiesWhen_of_handler {p : Instr → Prop} {result newA newP status : Byte → State → Byte}
    (hp : ∀ i, p i → i.operand ≠ .noneAddressing ∧ handler i = .modifies modify after)
    (hmodify : ∀ v s, modify v s = (result v s, s.setStatus (status v s)))
    (hafter : ∀ v s mem, after (result v s) { s with mem := mem, p := status v s } =
      { s with mem := mem, a := newA v s, p := newP v s }) : ModifiesWhen p result newA newP := by
  intro i s hi
  obtain ⟨ho, hhandler⟩ := hp i hi
  have hexec : exec i s = readModifyWrite i.operand modify after s := by rw [exec_eq_run, hhandler, Handler.run]
  refine ⟨fun a v t ha hv ht => ?_, fun f hf => ?_⟩
  · have hw : memWrite (modify v s).2 a (modify v s).1 = .ok (t.setStatus (status v s)) := by
      rw [hmodify, memWrite_setStatus, ht]
      rfl
    rw [hexec, readModifyWrite_ok ha hv hw, add_operandSize_eq_nextPc ho, hmodify, memWrite_only_mem ht]
    exact congrArg (fun u => Host.Outcome.next (State.setPc u (nextPc i s))) (hafter v s t.mem)
  · rw [hexec, readModifyWrite_error (hmodify · s) hf]

/-- A mnemonic of memory forms alone modifies by its handler. -/
theorem modifies_of_operandHandler {m : Mnemonic} {rows : List (Byte × ModeTag)}
    {result newA newP status : Byte → State → Byte} (hline : encodingLine m = rows)
    (htags : ∀ r ∈ rows, r.2 ≠ .noneAddressing) (hm : operandHandler m = .modifies modify after)
    (hmodify : ∀ v s, modify v s = (result v s, s.setStatus (status v s)))
    (hafter : ∀ v s mem, after (result v s) { s with mem := mem, p := status v s } =
      { s with mem := mem, a := newA v s, p := newP v s }) : Modifies m rows result newA newP := by
  have henc : EncodedAs m rows := encodedAs_of_encodingLine (by rintro rfl; cases hm) hline
  refine ⟨henc, modifiesWhen_of_handler (fun i hi => ?_) hmodify hafter⟩
  have ho : i.operand ≠ .noneAddressing := operand_ne_of_encodedAs henc htags hi
  exact ⟨ho, by rw [handler_of_operand ho, hi, hm]⟩

end Sys2Proof.Machine
end

section
/-!
PROOFS. Logic, arithmetic, compare, bit test, increment and decrement (R140 to R157): each effect of the model as the
exact arithmetic of `Sys2Proof.Claim` says it. The overflow of the adder is a statement about three signs
(`adderOverflow_eq_signs`), and SBC is the adder on the complement (R146).
-/

namespace Sys2Proof.Machine

open Sys2Proof.Claim

/-! ### Logic -/

theorem setZN_eq (v : Byte) (s : State) : setZN v s = { s with p := zn v s.p } := by
  rw [setZN, statusZN_eq_zn]

theorem accumulate_eq (v : Byte) (s : State) : accumulate v s = { s with a := v, p := zn v s.p } :=
  loadReg_eq .a v s

/-- Settles O19: each handler is `accumulate` of its bitwise operation. -/
theorem logicSetsAccumulatorZN : Obligations.LogicSetsAccumulatorZN :=
  ⟨reads_of_operandHandler (by decide +kernel) (by decide) rfl fun m s => accumulate_eq (s.a &&& m) s,
    reads_of_operandHandler (by decide +kernel) (by decide) rfl fun m s => accumulate_eq (s.a ||| m) s,
    reads_of_operandHandler (by decide +kernel) (by decide) rfl fun m s => accumulate_eq (s.a ^^^ m) s⟩

/-! ### The adder -/

/-- A byte meets a flag's mask where its bit at the flag's position is 1. -/
theorem and_mask_bne_zero (v : Byte) (f : Flag) : (v &&& Flag.mask f != 0x00) = v.getLsbD (Flag.bit f) := by
  have hmask : Flag.mask f = BitVec.twoPow 8 (Flag.bit f) := by cases f <;> rfl
  have hne : (BitVec.twoPow 8 (Flag.bit f) != 0x00) = true := by cases f <;> rfl
  rw [hmask, BitVec.and_twoPow]
  cases v.getLsbD (Flag.bit f) with
  | false => rfl
  | true => exact hne

/-- The adder overflows where the signs of both operands differ from the result's (R144). -/
theorem adderOverflow_eq_signs (a m r : Byte) : adderOverflow a m r = ((m.msb ^^ r.msb) && (r.msb ^^ a.msb)) := by
  rw [← BitVec.msb_xor, ← BitVec.msb_xor, ← BitVec.msb_and]
  exact and_mask_bne_zero _ .n

/-- The adder overflows where the exact signed sum leaves -128..127: operands of one sign, the result of the other. -/
theorem adderOverflow_added (a m : Byte) (c : Bool) :
    adderOverflow a m (added a m c) = outside (a.toInt + m.toInt + c.toNat) := by
  have hr : (added a m c).toNat = (a.toNat + m.toNat + c.toNat) % 256 := BitVec.toNat_ofNat _ 8
  have hc : c.toNat ≤ 1 := Bool.toNat_le c
  rw [adderOverflow_eq_signs, Bool.eq_iff_iff]
  simp only [BitVec.msb_eq_decide, BitVec.toInt_eq_toNat_cond, hr, outside, Bool.and_eq_true, bne_iff_ne, ne_eq,
    decide_eq_decide, decide_eq_true_eq]
  have ha := a.isLt
  have hm := m.isLt
  split <;> split <;> omega

theorem adcCore_eq (m : Byte) (s : State) :
    adcCore m s = { s with a := added s.a m (hasFlag s.p .c), p := addedP s.a m (hasFlag s.p .c) s.p } := by
  rw [addedP, ← adderOverflow_added, ← statusZN_eq_zn]
  rfl

/-! ### Subtraction -/

/-- `a + (255 - m) + c` is `a - m - (1 - c)` modulo 256. -/
theorem added_not (a m : Byte) (c : Bool) : added a (~~~m) c = subtracted a m c := by
  apply BitVec.eq_of_toNat_eq
  rw [added, subtracted, BitVec.toNat_ofNat, BitVec.toNat_ofInt, BitVec.toNat_not]
  have hm := m.isLt
  omega

theorem toInt_not_eq (m : Byte) : (~~~m).toInt = -m.toInt - 1 := by
  rw [BitVec.toInt_eq_toNat_cond, BitVec.toInt_eq_toNat_cond, BitVec.toNat_not]
  have hm := m.isLt
  split <;> split <;> omega

/-- No borrow is a carry, and the signed sum with the complement is the signed difference. -/
theorem addedP_not (a m : Byte) (c : Bool) (p : Byte) : addedP a (~~~m) c p = subtractedP a m c p := by
  have hcarry : (255 < a.toNat + (~~~m).toNat + c.toNat) ↔ ((m.toNat : Int) + (1 - c.toNat) ≤ a.toNat) := by
    rw [BitVec.toNat_not]
    have hm := m.isLt
    omega
  have hsigned : a.toInt + (~~~m).toInt + c.toNat = a.toInt - m.toInt - (1 - c.toNat) := by
    rw [toInt_not_eq]
    omega
  rw [addedP, subtractedP, added_not, hsigned, decide_eq_decide.2 hcarry]

theorem sbcCore_eq (m : Byte) (s : State) :
    sbcCore m s = { s with a := subtracted s.a m (hasFlag s.p .c), p := subtractedP s.a m (hasFlag s.p .c) s.p } := by
  rw [sbcCore, sbcOperand_eq_not, adcCore_eq, added_not, addedP_not]

/-- Settles O20: the handlers are the adder, for SBC on the complement of the operand. -/
theorem addSubtractWithCarry : Obligations.AddSubtractWithCarry :=
  ⟨reads_of_operandHandler (by decide +kernel) (by decide) rfl adcCore_eq,
    reads_of_operandHandler (by decide +kernel) (by decide) rfl sbcCore_eq⟩

/-! ### Compare -/

/-- The wrapped difference is the exact difference modulo 256 (R6). -/
theorem sub_eq_ofInt (a b : Byte) : a - b = BitVec.ofInt 8 ((a.toNat : Int) - b.toNat) := by
  apply BitVec.eq_of_toNat_eq
  rw [BitVec.toNat_sub, BitVec.toNat_ofInt]
  have hb := b.isLt
  omega

theorem compareWith_eq (reg m : Byte) (s : State) : compareWith reg m s = { s with p := comparedP reg m s.p } := by
  rw [compareWith, setZN_eq, sub_eq_ofInt]
  rfl

/-- Settles O21: each handler is `compareWith` of its register. -/
theorem comparesSetCZN : Obligations.ComparesSetCZN :=
  ⟨reads_of_operandHandler (by decide +kernel) (by decide) rfl fun m s => compareWith_eq s.a m s,
    reads_of_operandHandler (by decide +kernel) (by decide) rfl fun m s => compareWith_eq s.x m s,
    reads_of_operandHandler (by decide +kernel) (by decide) rfl fun m s => compareWith_eq s.y m s⟩

/-! ### Bit test -/

/-- Settles O22: the handler is `bitTest`, whose law gives each flag; the mask 0x40 is that of V, bit 6. -/
theorem bitAssignsZAndOnlySetsNV : Obligations.BitAssignsZAndOnlySetsNV := by
  obtain ⟨henc, hreads⟩ : Reads .BIT [(0x24, .zeroPage), (0x2C, .absolute)] bitTest :=
    reads_of_operandHandler (by decide +kernel) (by decide) rfl fun _ _ => rfl
  refine ⟨henc, fun i s hi => ?_⟩
  obtain ⟨hok, herror⟩ := hreads i s hi
  refine ⟨fun m hm => ⟨(bitTest m s).p, hok m hm, ?_, ?_, ?_, fun f hz hn hv => ?_⟩, herror⟩
  · rw [hasFlag_bitTest, if_pos rfl]
  · rw [hasFlag_bitTest, if_neg nofun, if_pos rfl]
  · rw [hasFlag_bitTest, if_neg nofun, if_neg nofun, if_pos rfl]
    exact congrArg (hasFlag s.p .v || ·) (and_mask_bne_zero m .v)
  · rw [hasFlag_bitTest, if_neg hz, if_neg hn, if_neg hv]

/-! ### Increment and decrement -/

/-- Settles O23: in memory the byte is written and then `setZN` of it; in a register it is `loadReg`. -/
theorem incDecWrapAndSetZN : Obligations.IncDecWrapAndSetZN :=
  ⟨modifies_of_operandHandler (status := fun _ s => s.p) (by decide +kernel) (by decide) rfl (fun _ _ => rfl)
      fun v _ _ => setZN_eq (v + 1) _,
    modifies_of_operandHandler (status := fun _ s => s.p) (by decide +kernel) (by decide) rfl (fun _ _ => rfl)
      fun v _ _ => setZN_eq (v - 1) _,
    actsAs_of_impliedHandler (by decide +kernel) rfl fun s => loadReg_eq .x (s.x + 1) s,
    actsAs_of_impliedHandler (by decide +kernel) rfl fun s => loadReg_eq .y (s.y + 1) s,
    actsAs_of_impliedHandler (by decide +kernel) rfl fun s => loadReg_eq .x (s.x - 1) s,
    actsAs_of_impliedHandler (by decide +kernel) rfl fun s => loadReg_eq .y (s.y - 1) s⟩

end Sys2Proof.Machine
end

section
/-!
PROOFS. Shifts and rotates (R170 to R174). One law per operation (`shiftStep_shiftLeft` and its three fellows) gives the
byte and the status it leaves by exact arithmetic; `shifts_of_handlers` carries it to the accumulator form and to the
memory forms.
-/

namespace Sys2Proof.Machine

open Sys2Proof.Claim

/-! ### The four operations by exact arithmetic -/

/-- The bit that leaves on the left sets C where the byte is at least 128. -/
theorem setCarry_bit7 (v : Byte) (s : State) : setCarry (v.getLsbD 7) s = s.setStatus (carryLeft v s.p) := by
  have hbit : v.getLsbD 7 = decide (128 ≤ v.toNat) := BitVec.msb_eq_decide v
  rw [setCarry, hbit]
  rfl

/-- The bit that leaves on the right sets C where the byte is odd. -/
theorem setCarry_bit0 (v : Byte) (s : State) : setCarry (v.getLsbD 0) s = s.setStatus (carryRight v s.p) := by
  have hbit : v.getLsbD 0 = decide (v.toNat % 2 = 1) := Nat.testBit_zero v.toNat
  rw [setCarry, hbit]
  rfl

theorem shiftStep_shiftLeft (v : Byte) (s : State) :
    shiftStep shiftLeft v s = (shiftedLeft v 0, s.setStatus (carryLeft v s.p)) :=
  Prod.ext (shiftLeft_result v (hasFlag s.p .c)) (setCarry_bit7 v s)

theorem shiftStep_shiftRight (v : Byte) (s : State) :
    shiftStep shiftRight v s = (shiftedRight v 0, s.setStatus (carryRight v s.p)) :=
  Prod.ext (shiftRight_result v (hasFlag s.p .c)) (setCarry_bit0 v s)

/-- The carry that enters is that of the state before, whatever leaves (R170). -/
theorem shiftStep_rotateLeft (v : Byte) (s : State) :
    shiftStep rotateLeft v s = (shiftedLeft v (carry s), s.setStatus (carryLeft v s.p)) :=
  Prod.ext (rotateLeft_result v _) (setCarry_bit7 v s)

/-- The carry that enters is that of the state before, whatever leaves (R170). -/
theorem shiftStep_rotateRight (v : Byte) (s : State) :
    shiftStep rotateRight v s = (shiftedRight v (carry s), s.setStatus (carryRight v s.p)) :=
  Prod.ext (rotateRight_result v _) (setCarry_bit0 v s)

/-! ### The accumulator form and the memory forms -/

/-- A mnemonic whose two handlers apply one operation to A and to memory shifts as that operation does. -/
theorem shifts_of_handlers {m : Mnemonic} {rows : List (Byte × ModeTag)} {f : Byte → Bool → Shifted}
    {result : Byte → State → Byte} {carryOut : Byte → Byte → Byte} (hline : encodingLine m = rows)
    (haccumulator : impliedHandler m = .acts (shiftA f)) (hmemory : operandHandler m = .modifies (shiftStep f) setZN)
    (hstep : ∀ v s, shiftStep f v s = (result v s, s.setStatus (carryOut v s.p))) : Shifts m rows result carryOut := by
  refine ⟨encodedAs_of_encodingLine (by rintro rfl; cases hmemory) hline, fun i s hi ho => ?_,
    modifiesWhen_of_handler (status := fun v s => carryOut v s.p) (fun i hi => ?_) hstep fun v s _ =>
      setZN_eq (result v s) _⟩
  · have hacts : impliedHandler i.mnemonic = .acts (shiftA f) := by rw [hi, haccumulator]
    rw [exec_eq_run, handler_of_implied ho (by rw [hacts]; nofun), hacts, Handler.run, registerOnly, advance_ok, shiftA,
      hstep, accumulate_eq]
    rfl
  · obtain ⟨hmnemonic, ho⟩ := hi
    exact ⟨ho, by rw [handler_of_operand ho, hmnemonic, hmemory]⟩

/-- Settles O24: each mnemonic applies its operation to A in the accumulator form and to memory in the others. -/
theorem shiftsMoveBitThroughCarry : Obligations.ShiftsMoveBitThroughCarry :=
  ⟨shifts_of_handlers (by decide +kernel) rfl rfl shiftStep_shiftLeft,
    shifts_of_handlers (by decide +kernel) rfl rfl shiftStep_shiftRight,
    shifts_of_handlers (by decide +kernel) rfl rfl shiftStep_rotateLeft,
    shifts_of_handlers (by decide +kernel) rfl rfl shiftStep_rotateRight⟩

end Sys2Proof.Machine
end

section
/-!
PROOFS. The stack bytes, the flag instructions and the no-operations (R180 to R191, R231, R232). What an instruction does
follows from its handler's shape: one lemma each for a handler that acts, reads, pushes or pulls.
-/

namespace Sys2Proof.Machine

open Sys2Proof.Claim

variable {i : Instr} {s t : State} {v : Byte}

/-! ### Handlers that act or read -/

/-- A handler on registers alone never stops. -/
theorem exec_of_acts {effect : State → State} (hh : handler i = .acts effect) (s : State) :
    exec i s = .next ((effect s).setPc (s.pc + 1)) := by
  rw [exec_eq_run, hh, Handler.run, registerOnly, advance_ok]

/-- Forms with an operand whose handler reads it, though their mnemonic may have other forms too. -/
theorem readsWhen_of_handler {p : Instr → Prop} {effect : Byte → State → State}
    (hp : ∀ i, p i → i.operand ≠ .noneAddressing ∧ handler i = .reads effect) : ReadsWhen p effect := by
  intro i s hi
  obtain ⟨ho, hh⟩ := hp i hi
  have hexec : exec i s = withOperand i.operand effect s := by rw [exec_eq_run, hh, Handler.run]
  refine ⟨fun m hm => ?_, fun f hf => ?_⟩
  · rw [hexec, withOperand_ok hm, add_operandSize_eq_nextPc ho]
    rfl
  · rw [hexec, withOperand_error hf]

/-- Settles O27: each handler sets or clears one flag. -/
theorem flagInstructionsWriteOneFlag : Obligations.FlagInstructionsWriteOneFlag :=
  ⟨actsAs_of_impliedHandler (by decide +kernel) rfl fun _ => rfl,
    actsAs_of_impliedHandler (by decide +kernel) rfl fun _ => rfl,
    actsAs_of_impliedHandler (by decide +kernel) rfl fun _ => rfl,
    actsAs_of_impliedHandler (by decide +kernel) rfl fun _ => rfl,
    actsAs_of_impliedHandler (by decide +kernel) rfl fun _ => rfl,
    actsAs_of_impliedHandler (by decide +kernel) rfl fun _ => rfl,
    actsAs_of_impliedHandler (by decide +kernel) rfl fun _ => rfl⟩

/-- The effect of both handlers of NOP is the identity: the implied form acts so, the others after reading (D12). -/
theorem handler_of_nop (hi : i.mnemonic = .NOP) :
    handler i = if i.operand = .noneAddressing then .acts fun s => s else .reads fun _ s => s := by
  split
  case isTrue ho =>
    have himplied : impliedHandler i.mnemonic = .acts fun s => s := by rw [hi, impliedHandler]
    rw [handler_of_implied ho (by rw [himplied]; nofun), himplied]
  case isFalse ho => rw [handler_of_operand ho, hi, operandHandler]

/-- Settles O28: the Encoding line from the table, and the two shapes of `handler_of_nop`. -/
theorem nopsOnlyAdvance : Obligations.NopsOnlyAdvance := by
  refine ⟨encodedAs_of_encodingLine (by decide) (by decide +kernel), fun i s hi ho => ?_,
    readsWhen_of_handler fun i hi => ?_⟩
  · exact exec_of_acts (by rw [handler_of_nop hi, if_pos ho]) s
  · obtain ⟨hmnemonic, ho⟩ := hi
    exact ⟨ho, by rw [handler_of_nop hmnemonic, if_neg ho]⟩

/-! ### Handlers that push or pull a byte -/

theorem push8_of_memWrite (h : memWrite s (stackAt s.sp) v = .ok t) : push8 v s = .ok { t with sp := s.sp - 1 } :=
  congrArg (Except.map _) h

theorem push8_of_memWrite_error {f : Fault} (h : memWrite s (stackAt s.sp) v = .error f) : push8 v s = .error f :=
  congrArg (Except.map _) h

theorem exec_of_pushes {value : State → Byte} (hh : handler i = .pushes value)
    (h : memWrite s (stackAt s.sp) (value s) = .ok t) : exec i s = .next { t with sp := s.sp - 1, pc := s.pc + 1 } := by
  rw [exec_eq_run, hh, Handler.run, push8_of_memWrite h, advance_ok]
  rfl

theorem exec_of_pushes_error {value : State → Byte} {f : Fault} (hh : handler i = .pushes value)
    (h : memWrite s (stackAt s.sp) (value s) = .error f) : exec i s = .fault f := by
  rw [exec_eq_run, hh, Handler.run, push8_of_memWrite_error h, advance_error]

/-- Settles O25: the handler of PHA pushes A, that of PHP the status with BREAK and BREAK2 set. -/
theorem pushesWriteStackByte : Obligations.PushesWriteStackByte := by
  have hpha : handler .pha = .pushes State.a := rfl
  have hphp : handler .php = .pushes fun s => s.p ||| 0x30 := rfl
  exact ⟨rfl, rfl, fun s => ⟨fun _ => exec_of_pushes hpha, fun _ => exec_of_pushes_error hpha,
    fun _ => exec_of_pushes hphp, fun _ => exec_of_pushes_error hphp⟩⟩

/-- The stack page lies in the RAM window (R24, R52). -/
theorem stackAt_lt (sp : Byte) : stackAt sp < 0x2000 := by
  rw [stackAt]
  bv_omega

/-- No read of the stack page is fatal. -/
theorem exists_memRead_stackAt (s : State) (sp : Byte) : ∃ v, memRead s (stackAt sp) = .ok v :=
  memRead_outside (.inl (stackAt_lt sp))

theorem exec_of_pulls {effect : Byte → State → State} (hh : handler i = .pulls effect)
    (h : memRead s (stackAt (s.sp + 1)) = .ok v) :
    exec i s = .next ((effect v { s with sp := s.sp + 1 }).setPc (s.pc + 1)) := by
  rw [exec_eq_run, hh, Handler.run, pull8_of_memRead h, Except.map, advance_ok]

/-- Settles O26: both handlers pull, which is never fatal; PLA loads the byte, PLP restores the status from it. -/
theorem pullsReadStackByte : Obligations.PullsReadStackByte := by
  refine ⟨rfl, rfl, fun s => ?_⟩
  obtain ⟨v, hv⟩ := exists_memRead_stackAt s (s.sp + 1)
  refine ⟨v, hv, ?_, ?_⟩
  · have hpla : handler .pla = .pulls (loadReg .a) := rfl
    rw [exec_of_pulls hpla hv, loadReg_eq]
    rfl
  · have hplp : handler .plp = .pulls fun v t => t.setStatus (restoredStatus v) := rfl
    rw [exec_of_pulls hplp hv, restoredStatus_eq_putFlag]
    rfl

end Sys2Proof.Machine
end

section
/-!
PROOFS. Branches, jumps, call and return (R200 to R212). The program-counter rule of a transfer is `pcAfter_some`. JSR
is its four accesses in their order (`call_eq_accesses`); RTS goes past the word it pulls (`exec_rts_of_pull16`), and
that this is the word JSR pushed is the law of the stack, `pullUndoesPush`.
-/

namespace Sys2Proof.Machine

open Sys2Proof.Claim

variable {s t : State} {w a b : Addr} {lo hi v : Byte}

/-! ### The program counter of a transfer -/

/-- A handler that assigns `PC` ends by the rule of the control transfers (R84). -/
theorem pcAfter_some (s : State) (len target : Addr) : pcAfter s len (some target) = transferPc s len target := by
  rw [pcAfter, transferPc]
  cases s.cfg.pcAlteredTest with
  | value => simp
  | assignment => simp

theorem finish_transfer (s t : State) (len target : Addr) :
    finish s len (.ok (t, some target)) = .next { t with pc := transferPc s len target } := by
  rw [← pcAfter_some]
  rfl

/-- After an instruction of one byte the two tests of the rule agree: it goes to its target under both. -/
theorem transferPc_one (s : State) (target : Addr) : transferPc s 1 target = target := by
  rw [transferPc]
  split
  case isTrue h => exact h.2.symm
  case isFalse => rfl

/-! ### Return -/

theorem pull16_of_memRead (hlo : memRead s (stackAt (s.sp + 1)) = .ok lo)
    (hhi : memRead s (stackAt (s.sp + 2)) = .ok hi) :
    pull16 s = .ok (joinBytes hi lo, { s with sp := s.sp + 2 }) := by
  have hsp : s.sp + 1 + 1 = s.sp + 2 := BitVec.add_assoc s.sp 1 1
  have hhigh : memRead { s with sp := s.sp + 1 } (stackAddr (s.sp + 1 + 1)) = .ok hi := by rw [hsp]; exact hhi
  simp only [pull16, pull8_of_memRead hlo, bind, Except.bind, pull8_of_memRead hhigh, hsp]
  rfl

/-- A word pull does not depend on `PC`, nor does it change it. -/
theorem pull16_setPc (h : pull16 s = .ok (w, t)) (pc : Addr) : pull16 (s.setPc pc) = .ok (w, t.setPc pc) := by
  obtain ⟨lo, hi, u, hlo, hhi, rfl⟩ := pull16_ok h
  obtain ⟨hlow, rfl⟩ := pull8_ok hlo
  obtain ⟨hhigh, rfl⟩ := pull8_ok hhi
  have hsp : s.sp + 1 + 1 = s.sp + 2 := BitVec.add_assoc s.sp 1 1
  rw [hsp] at hhigh ⊢
  exact pull16_of_memRead (s := s.setPc pc) hlow hhigh

/-- RTS goes to the address after the word it pulls (R212). -/
theorem exec_rts_of_pull16 (h : pull16 s = .ok (w, t)) : exec .rts s = .next { t with pc := w + 1 } := by
  have hbody : rtsBody s = .ok (t, some (w + 1)) := by rw [rtsBody, h, Except.map]
  calc exec .rts s
    _ = finish s 1 (rtsBody s) := exec_eq_run .rts s
    _ = .next { t with pc := w + 1 } := by rw [hbody, finish_transfer, transferPc_one]

/-- A call that answers has pushed the address of its last byte (R211). -/
theorem push16_of_call {target : Option Addr} (h : call s = .ok (t, target)) : push16 (s.pc + 2) s = .ok t := by
  obtain ⟨u, _, _, hhigh, hlow, -, rfl, -⟩ := call_ok h
  simp only [push16, hhigh, bind, Except.bind, hlow]

/-- Settles O34: the word RTS pulls is the one JSR pushed, by the law of the stack. -/
theorem rtsUndoesJsr : Obligations.RtsUndoesJsr := by
  intro w pc' s t hram hwf h
  rw [exec_eq_run] at h
  obtain ⟨u, target, hcall, rfl⟩ := finish_next h
  obtain ⟨-, u', hpush, -, hpull⟩ := pullUndoesPush (s.pc + 2) 0 s hram hwf
  obtain rfl : u' = u := Except.ok.inj (hpush.symm.trans (push16_of_call hcall))
  have hpc : s.pc + 2 + 1 = s.pc + 3 := BitVec.add_assoc s.pc 2 1
  rw [← hpc]
  exact exec_rts_of_pull16 (pull16_setPc hpull pc')

/-- Settles O33: both reads of the stack page answer, so the pull does. -/
theorem rtsReturnsPastPulledWord : Obligations.RtsReturnsPastPulledWord := by
  refine ⟨rfl, fun s => ?_⟩
  obtain ⟨lo, hlo⟩ := exists_memRead_stackAt s (s.sp + 1)
  obtain ⟨hi, hhi⟩ := exists_memRead_stackAt s (s.sp + 2)
  have hpc : BitVec.ofNat 16 (hi.toNat * 256 + lo.toNat + 1) = joinBytes hi lo + 1 := by
    rw [joinBytes_eq_ofNat, BitVec.ofNat_add]
    rfl
  refine ⟨lo, hi, hlo, hhi, ?_⟩
  rw [hpc]
  exact exec_rts_of_pull16 (pull16_of_memRead hlo hhi)

/-! ### Branches -/

theorem sext8_eq_toInt (v : Byte) : sext8 v = v.toInt := by
  rw [sext8, BitVec.toInt_eq_toNat_cond]
  split <;> split <;> omega

/-- The offset is added as a signed number, modulo 65536 (R101). -/
theorem branchTarget_eq_signExtend (opaddr : Addr) (off : Byte) :
    branchTarget opaddr off = opaddr + 2 + off.signExtend 16 := by
  rw [branchTarget, wrap16, sext8_eq_toInt, BitVec.ofInt_add, BitVec.ofInt_natCast, BitVec.ofNat_toNat,
    BitVec.setWidth_eq]
  rfl

theorem cond_holds_iff (c : Cond) (p : Byte) : c.holds p = true ↔ hasFlag p c.flag = c.value := by
  rw [Cond.holds, beq_iff_eq]

/-- An instruction whose handler branches on a condition does what R200 says of it. -/
theorem branchesOn_of_handler {op : Byte} {mk : Byte → Instr} {c : Cond} (henc : ∀ off, encode (mk off) = [op, off])
    (hh : ∀ off, handler (mk off) = .branches c off) : BranchesOn op mk c.flag c.value := by
  intro off s
  refine ⟨henc off, ?_⟩
  rw [exec_eq_run, hh, Handler.run, branch]
  by_cases htaken : hasFlag s.p c.flag = c.value
  · rw [if_pos htaken, if_pos ((cond_holds_iff c s.p).2 htaken), finish_transfer, branchTarget_eq_signExtend]
  · rw [if_neg htaken, if_neg (mt (cond_holds_iff c s.p).1 htaken)]
    rfl

/-- Settles O30: the handler of each branch is `branch` of its condition. -/
theorem branchesTakeOnFlag : Obligations.BranchesTakeOnFlag :=
  ⟨branchesOn_of_handler (c := condBcc) (fun _ => rfl) fun _ => rfl,
    branchesOn_of_handler (c := condBcs) (fun _ => rfl) fun _ => rfl,
    branchesOn_of_handler (c := condBeq) (fun _ => rfl) fun _ => rfl,
    branchesOn_of_handler (c := condBne) (fun _ => rfl) fun _ => rfl,
    branchesOn_of_handler (c := condBmi) (fun _ => rfl) fun _ => rfl,
    branchesOn_of_handler (c := condBpl) (fun _ => rfl) fun _ => rfl,
    branchesOn_of_handler (c := condBvc) (fun _ => rfl) fun _ => rfl,
    branchesOn_of_handler (c := condBvs) (fun _ => rfl) fun _ => rfl⟩

/-! ### Jumps -/

theorem exec_of_jumps {i : Instr} {target : State → Except Fault Addr} (hh : handler i = .jumps target)
    (h : target s = .ok w) : exec i s = .next { s with pc := transferPc s 3 w } := by
  rw [exec_eq_run, hh, Handler.run, h, Except.map, finish_transfer]

theorem exec_of_jumps_error {i : Instr} {target : State → Except Fault Addr} {f : Fault}
    (hh : handler i = .jumps target) (h : target s = .error f) : exec i s = .fault f := by
  rw [exec_eq_run, hh, Handler.run, h]
  rfl

/-- The high byte of the target is in the page of the low byte: at its start when the low byte is its last (R210). -/
theorem indirectHighAddr_eq (w : Addr) :
    indirectHighAddr w = if w.toNat % 256 = 255 then BitVec.ofNat 16 (w.toNat - 255) else w + 1 := by
  have hlast : lowByte w = 0xFF ↔ w.toNat % 256 = 255 := by
    rw [lowByte_eq_ofNat, ← BitVec.toNat_inj, BitVec.toNat_ofNat]
    rfl
  have hstart (h : w.toNat % 256 = 255) : w &&& 0xFF00 = BitVec.ofNat 16 (w.toNat - 255) := by
    have hmask : w >>> 8 <<< 8 = w &&& 0xFF00 := BitVec.shiftLeft_ushiftRight
    rw [← hmask]
    bv_omega
  rw [indirectHighAddr]
  split
  case isTrue h => rw [if_pos (hlast.1 h), hstart (hlast.1 h)]
  case isFalse h => rw [if_neg (mt hlast.2 h)]

theorem indirectHighAddr_samePage (w : Addr) : (indirectHighAddr w).toNat / 256 = w.toNat / 256 := by
  rw [indirectHighAddr_eq]
  split <;> bv_omega

/-- The PPU window ends at page boundaries: where one byte of a page can be read, each can. -/
theorem exists_memRead_of_samePage (h : memRead s a = .ok v) (hpage : b.toNat / 256 = a.toNat / 256) :
    ∃ v', memRead s b = .ok v' := by
  cases hb : memRead s b with
  | ok v' => exact ⟨v', rfl⟩
  | error f =>
    obtain ⟨hlo, hhi, hnone⟩ := route_ppuAbsent (memRead_error hb).2
    have habsent : route s.cfg a = .ppuAbsent := by
      rw [route_ppuWindow s.cfg (by bv_omega) (by bv_omega), hnone, ppuRoute]
    rw [memRead_of_ppuAbsent habsent] at h
    cases h

theorem readPair_error {f : Fault} (h : memRead s a = .error f) : readPair s a b = .error f := by
  rw [readPair, h]
  rfl

/-- Settles O31: both bytes of the indirect target are of the pointer's page. -/
theorem jumpsGoToTarget : Obligations.JumpsGoToTarget := by
  intro w s
  have hindirect : handler (.jmpInd w) = .jumps (indirectTarget w) := rfl
  dsimp only
  rw [← indirectHighAddr_eq]
  refine ⟨rfl, rfl, exec_of_jumps (target := fun _ => .ok w) rfl rfl, fun lo hlo => ?_, fun f hf => ?_⟩
  · obtain ⟨hi, hhi⟩ := exists_memRead_of_samePage hlo (indirectHighAddr_samePage w)
    refine ⟨hi, hhi, ?_⟩
    rw [← joinBytes_eq_ofNat]
    exact exec_of_jumps hindirect (readPair_of_ok hlo hhi)
  · exact exec_of_jumps_error hindirect (readPair_error hf)

/-! ### Call -/

/-- A push from a state whose stack pointer was moved. -/
theorem push8_withSp (v sp : Byte) (s : State) :
    push8 v { s with sp := sp } = (memWrite s (stackAt sp) v).map fun t => { t with sp := sp - 1 } := by
  have hwrite : memWrite { s with sp := sp } (stackAt sp) v =
      (memWrite s (stackAt sp) v).map fun t => { s with sp := sp, mem := t.mem } :=
    memWrite_congr (s := s) (s' := { s with sp := sp }) rfl rfl (stackAt sp) v
  cases ht : memWrite s (stackAt sp) v with
  | error f =>
    rw [ht] at hwrite
    exact push8_of_memWrite_error hwrite
  | ok t =>
    rw [ht] at hwrite
    rw [push8_of_memWrite hwrite, memWrite_only_mem ht]
    rfl

/-- JSR is four accesses: the two writes of `opaddr + 2`, high byte first, and then the two reads of its target (R211,
R32, D18). -/
theorem call_eq_accesses (s : State) : call s = (do
    let t1 ← memWrite s (stackAt s.sp) (highByte (s.pc + 2))
    let t2 ← memWrite t1 (stackAt (s.sp - 1)) (lowByte (s.pc + 2))
    let lo ← memRead t2 (s.pc + 1)
    let hi ← memRead t2 (s.pc + 2)
    return ({ t2 with sp := s.sp - 2 }, some (joinBytes hi lo))) := by
  have hpc : s.pc + 1 + 1 = s.pc + 2 := BitVec.add_assoc s.pc 1 1
  have hsp : s.sp - 1 - 1 = s.sp - 2 := by bv_omega
  cases h1 : memWrite s (stackAt s.sp) (highByte (s.pc + 2)) with
  | error f =>
    simp only [call, push16, push8_of_memWrite_error h1]
    rfl
  | ok t1 =>
    simp only [call, push16, push8_of_memWrite h1, bind, Except.bind, push8_withSp, hsp, memReadWide, readPair, hpc]
    cases memWrite t1 (stackAt (s.sp - 1)) (lowByte (s.pc + 2)) with
    | error f => rfl
    | ok t2 =>
      have hread (a : Addr) : memRead { t2 with sp := s.sp - 2 } a = memRead t2 a := rfl
      simp only [Except.map, hread]
      cases memRead t2 (s.pc + 1) with
      | error f => rfl
      | ok lo => cases memRead t2 (s.pc + 2) <;> rfl

/-- Settles O32: the four accesses are those of `call_eq_accesses`, in that order. -/
theorem jsrPushesThenReadsTarget : Obligations.JsrPushesThenReadsTarget := by
  intro w s
  have hexec : exec (.jsr w) s = finish s 3 (call s) := exec_eq_run (.jsr w) s
  rw [hexec, call_eq_accesses]
  refine ⟨rfl, fun f h1 => ?_, fun t1 h1 => ⟨fun f h2 => ?_, fun t2 h2 => ⟨fun f hlo => ?_, fun lo hlo =>
    ⟨fun f hhi => ?_, fun hi hhi => ?_⟩⟩⟩⟩
  · rw [h1]; rfl
  · simp only [h1, bind, Except.bind, h2]; rfl
  · simp only [h1, bind, Except.bind, h2, hlo]; rfl
  · simp only [h1, bind, Except.bind, h2, hlo, hhi]; rfl
  · simp only [h1, bind, Except.bind, h2, hlo, hhi, ← joinBytes_eq_ofNat]
    exact finish_transfer s _ 3 _

end Sys2Proof.Machine
end

section
/-!
PROOFS. The system instructions (R220, R221). BRK has the handler of a push, of the status with BREAK and BREAK2 set
(D9); RTI is the trap return, three reads of the stack page (`trapReturn_of_memRead`) that are never fatal.
-/

namespace Sys2Proof.Machine

open Sys2Proof.Claim

/-- Settles O36: the handler of BRK pushes the status with BREAK and BREAK2 set, as that of PHP does. -/
theorem brkPushesStatusOnly : Obligations.BrkPushesStatusOnly := by
  have hbrk : handler .brk = .pushes fun s => s.p ||| 0x30 := rfl
  exact ⟨rfl, fun s => ⟨fun _ => exec_of_pushes hbrk, fun _ => exec_of_pushes_error hbrk⟩⟩

/-- The trap return pulls a byte and then a word, from the three bytes above the stack pointer (R275). -/
theorem trapReturn_of_memRead {s : State} {v lo hi : Byte} (hv : memRead s (stackAt (s.sp + 1)) = .ok v)
    (hlo : memRead s (stackAt (s.sp + 2)) = .ok lo) (hhi : memRead s (stackAt (s.sp + 3)) = .ok hi) :
    trapReturn s = .ok ({ s with sp := s.sp + 3, p := restoredStatus v }, some (joinBytes hi lo)) := by
  have hsp2 : s.sp + 1 + 1 = s.sp + 2 := BitVec.add_assoc s.sp 1 1
  have hsp3 : s.sp + 1 + 2 = s.sp + 3 := BitVec.add_assoc s.sp 1 2
  rw [← hsp2] at hlo
  rw [← hsp3] at hhi ⊢
  have hword : pull16 { s with sp := s.sp + 1, p := restoredStatus v } =
      .ok (joinBytes hi lo, { s with sp := s.sp + 1 + 2, p := restoredStatus v }) := pull16_of_memRead hlo hhi
  simp only [trapReturn, pull8_of_memRead hv, bind, Except.bind, State.setStatus, hword]
  rfl

/-- Settles O37: the three reads of the stack page answer, so the trap return does; both tests for an assigned `PC` let
an instruction of one byte go to the word it pulled. -/
theorem rtiRestoresStatusAndPc : Obligations.RtiRestoresStatusAndPc := by
  refine ⟨rfl, fun s => ?_⟩
  obtain ⟨v, hv⟩ := exists_memRead_stackAt s (s.sp + 1)
  obtain ⟨lo, hlo⟩ := exists_memRead_stackAt s (s.sp + 2)
  obtain ⟨hi, hhi⟩ := exists_memRead_stackAt s (s.sp + 3)
  refine ⟨v, lo, hi, hv, hlo, hhi, ?_⟩
  rw [← restoredStatus_eq_putFlag, ← joinBytes_eq_ofNat]
  calc exec .rti s
    _ = finish s 1 (trapReturn s) := exec_eq_run .rti s
    _ = .next { s with sp := s.sp + 3, p := restoredStatus v, pc := joinBytes hi lo } := by
      rw [trapReturn_of_memRead hv hlo hhi, finish_transfer, transferPc_one]

end Sys2Proof.Machine
end

section
/-!
PROOFS. The unofficial opcodes (R233 to R244). Each is a shift, the adder, a comparison, a store or a load that the
sections above give by exact arithmetic; what is new is that the flag written last wins (`putFlag_putFlag_self`), which
hands RRA's rotated-out bit to its adder, and the shape of the mnemonics with immediate operands alone.
-/

namespace Sys2Proof.Machine

open Sys2Proof.Claim

variable {m : Mnemonic} {rows : List (Byte × ModeTag)}

/-! ### A shift of memory combined with A -/

/-- A mnemonic that shifts memory and then combines A with the byte written. -/
theorem modifies_of_shiftLogic {f : Byte → Bool → Shifted} {result : Byte → State → Byte}
    {carryOut : Byte → Byte → Byte} (op : Byte → Byte → Byte) (hline : encodingLine m = rows)
    (htags : ∀ r ∈ rows, r.2 ≠ .noneAddressing)
    (hm : operandHandler m = .modifies (shiftStep f) fun r s => accumulate (op s.a r) s)
    (hstep : ∀ v s, shiftStep f v s = (result v s, s.setStatus (carryOut v s.p))) :
    Modifies m rows result (fun v s => op s.a (result v s)) fun v s => zn (op s.a (result v s)) (carryOut v s.p) :=
  modifies_of_operandHandler (status := fun v s => carryOut v s.p) hline htags hm hstep fun v s _ =>
    accumulate_eq (op s.a (result v s)) _

/-- Settles O38: the shifts of O24, each with its bitwise operation on A. -/
theorem shiftLogicCombinesMemoryIntoA : Obligations.ShiftLogicCombinesMemoryIntoA :=
  ⟨modifies_of_shiftLogic (· ||| ·) (by decide +kernel) (by decide) rfl shiftStep_shiftLeft,
    modifies_of_shiftLogic (· &&& ·) (by decide +kernel) (by decide) rfl shiftStep_rotateLeft,
    modifies_of_shiftLogic (· ^^^ ·) (by decide +kernel) (by decide) rfl shiftStep_shiftRight⟩

/-! ### A change of memory followed by arithmetic -/

/-- Of two writes of one flag the last stands. -/
theorem putFlag_putFlag_self (f : Flag) (u v : Bool) (p : Byte) : putFlag f u (putFlag f v p) = putFlag f u p := by
  apply status_ext
  intro g
  by_cases hg : g = f <;> simp [hasFlag_putFlag, hg]

/-- The carry a right shift leaves is the bit shifted out. -/
theorem hasFlag_carryRight (v p : Byte) : hasFlag (carryRight v p) .c = v.getLsbD 0 := by
  rw [carryRight, hasFlag_putFlag, if_pos rfl]
  exact (Nat.testBit_zero v.toNat).symm

/-- The adder writes C itself, so its flags do not show a carry put there before. -/
theorem addedP_carryRight (a m : Byte) (c : Bool) (v p : Byte) : addedP a m c (carryRight v p) = addedP a m c p := by
  rw [addedP, addedP, carryRight, putFlag_putFlag_self]

/-- The adder after a right rotate takes the bit rotated out as its carry (R236). -/
theorem adcCore_after_carryRight (m v : Byte) (s : State) :
    adcCore m (s.setStatus (carryRight v s.p)) =
      { s with a := added s.a m (v.getLsbD 0), p := addedP s.a m (v.getLsbD 0) s.p } := by
  rw [adcCore_eq]
  simp only [State.setStatus, hasFlag_carryRight, addedP_carryRight]

/-- ISB's operand for the adder is that of SBC (R240, R146). -/
theorem adcCore_xor_ff (m : Byte) (s : State) : adcCore (m ^^^ 0xFF) s = sbcCore m s := by
  rw [sbcCore, sbcOperand_eq_not]
  exact congrArg (adcCore · s) BitVec.xor_allOnes

/-- Settles O39: the byte is written first, and then the adder, the comparison or the subtraction has it as operand. -/
theorem modifyThenArithmetic : Obligations.ModifyThenArithmetic :=
  ⟨modifies_of_operandHandler (status := fun v s => carryRight v s.p) (by decide +kernel) (by decide) rfl
      shiftStep_rotateRight fun v s mem => adcCore_after_carryRight (shiftedRight v (carry s)) v { s with mem := mem },
    modifies_of_operandHandler (status := fun _ s => s.p) (by decide +kernel) (by decide) rfl (fun _ _ => rfl)
      fun v s _ => compareWith_eq s.a (v - 1) _,
    modifies_of_operandHandler (status := fun _ s => s.p) (by decide +kernel) (by decide) rfl (fun _ _ => rfl)
      fun v _ _ => (adcCore_xor_ff (v + 1) _).trans (sbcCore_eq (v + 1) _)⟩

/-! ### SAX and LAX -/

/-- Settles O40: the handler of SAX stores A and X together, that of LAX loads A and then X, whose `loadReg` sets the
flags. -/
theorem saxStoresLaxLoadsBoth : Obligations.SaxStoresLaxLoadsBoth :=
  ⟨stores_of_operandHandler (by decide +kernel) (by decide) rfl,
    reads_of_operandHandler (by decide +kernel) (by decide) rfl fun v s => loadReg_eq .x v (s.setReg .a v)⟩

/-! ### The immediate operations -/

/-- A mode tag is `Immediate` for the immediate operands alone. -/
theorem operand_eq_imm_of_operandTag {o : Operand} (h : operandTag o = .immediate) : ∃ v, o = .imm v := by
  cases o with
  | imm v => exact ⟨v, rfl⟩
  | _ => cases h

/-- A mnemonic of immediate forms alone has its operand with the instruction, so it never stops. -/
theorem actsOnImmediate_of_operandHandler {f effect : Byte → State → State} (hline : encodingLine m = rows)
    (htags : ∀ r ∈ rows, r.2 = .immediate) (hm : operandHandler m = .reads f)
    (hf : ∀ v s, f v s = effect v s) : ActsOnImmediate m rows effect := by
  obtain ⟨henc, hreads⟩ : Reads m rows effect :=
    reads_of_operandHandler hline (fun r hr => by rw [htags r hr]; decide) hm hf
  refine ⟨henc, fun i s hi => ?_⟩
  obtain ⟨v, hv⟩ := operand_eq_imm_of_operandTag (htags _ ((henc i).1 hi))
  obtain ⟨hok, -⟩ := hreads i s hi
  exact ⟨v, hv, hok v (by rw [hv]; rfl)⟩

theorem ancCore_eq (m : Byte) (s : State) : ancCore m s =
    { s with a := s.a &&& m, p := putFlag .c ((s.a &&& m).getLsbD 7) (zn (s.a &&& m) s.p) } := by
  rw [ancCore, accumulate_eq]
  rfl

/-- ALR shifts A and its operand together as LSR shifts A. -/
theorem alrCore_eq (m : Byte) (s : State) : alrCore m s =
    { s with
      a := shiftedRight (s.a &&& m) 0
      p := zn (shiftedRight (s.a &&& m) 0) (carryRight (s.a &&& m) s.p) } := by
  have hstep : alrCore m s =
      accumulate (shiftStep shiftRight (s.a &&& m) s).1 (shiftStep shiftRight (s.a &&& m) s).2 := rfl
  rw [hstep, shiftStep_shiftRight, accumulate_eq]
  rfl

/-- ARR rotates as ROR does, but C and V come from the result. -/
theorem arrCore_eq (m : Byte) (s : State) : arrCore m s =
    let r := shiftedRight (s.a &&& m) (carry s)
    { s with a := r, p := putFlag .v (r.getLsbD 6 ^^ r.getLsbD 5) (putFlag .c (r.getLsbD 6) (zn r s.p)) } := by
  simp only [arrCore, rotateRight_result, accumulate_eq]
  rfl

theorem axsCore_eq (m : Byte) (s : State) :
    axsCore m s = { s with x := (s.a &&& s.x) - m, p := comparedP (s.a &&& s.x) m s.p } := by
  rw [axsCore, compareWith_eq]

/-- Settles O41: each handler is the law of its operation above. -/
theorem immediateUnofficialsFollowRules : Obligations.ImmediateUnofficialsFollowRules :=
  ⟨actsOnImmediate_of_operandHandler (by decide +kernel) (by decide) rfl ancCore_eq,
    actsOnImmediate_of_operandHandler (by decide +kernel) (by decide) rfl alrCore_eq,
    actsOnImmediate_of_operandHandler (by decide +kernel) (by decide) rfl arrCore_eq,
    actsOnImmediate_of_operandHandler (by decide +kernel) (by decide) rfl axsCore_eq⟩

end Sys2Proof.Machine
end

section
/-!
PROOFS. The fatal conditions of a step (R260 to R273). `Meets` names the conditions a bus access can meet, `MeetsOnly`
the computations that can meet no other; it composes along the binds of a handler's body, so an admitted instruction
stops by a bus access or not at all (`exec_fault`), and with RAM everywhere not at all.
-/

namespace Sys2Proof.Machine

/-! ### The conditions of a bus access -/

/-- The fatal conditions of a bus access under a configuration (R267, R268). -/
inductive Meets (cfg : Config) : Fault → Prop
  | ppuAccess {a : Addr} : route cfg a = .ppuAbsent → Meets cfg (.ppuAccess a)
  | romWrite {a x : Addr} {pages : RomPages} {prg : Memory} :
    route cfg a = .device (.rom pages prg) x → Meets cfg (.romWrite x)

/-- A computation stops by a fatal condition of a bus access or not at all. -/
def MeetsOnly {α : Type} (cfg : Config) (r : Except Fault α) : Prop := ∀ f, r = .error f → Meets cfg f

theorem Meets.stepCanRaise {s : State} {f : Fault} (h : Meets s.cfg f) : StepCanRaise s f := by
  cases h with
  | ppuAccess ha => exact route_ppuAbsent ha
  | romWrite ha => exact ⟨_, _, _, ha⟩

/-- With RAM at every address no bus access is fatal. -/
theorem not_meets_of_ram {cfg : Config} (hram : ∀ a, ∃ x, route cfg a = .device .ram x) (f : Fault) :
    ¬ Meets cfg f := by
  intro h
  cases h with
  | @ppuAccess a ha | @romWrite a _ _ _ ha =>
    obtain ⟨x, hx⟩ := hram a
    rw [hx] at ha
    cases ha

section
variable {α β : Type} {cfg : Config} {s t : State}

theorem meetsOnly_ok (v : α) : MeetsOnly cfg (.ok v) := nofun

theorem MeetsOnly.bind {r : Except Fault α} {k : α → Except Fault β} (hr : MeetsOnly cfg r)
    (hk : ∀ v, r = .ok v → MeetsOnly cfg (k v)) : MeetsOnly cfg (r >>= k) := by
  cases r with
  | error e => exact fun f h => hr f (by cases h; rfl)
  | ok v => exact hk v rfl

theorem MeetsOnly.map {r : Except Fault α} (hr : MeetsOnly cfg r) (g : α → β) : MeetsOnly cfg (r.map g) := by
  cases r with
  | error e => exact fun f h => hr f (by cases h; rfl)
  | ok v => exact meetsOnly_ok _

/-! ### The operations -/

theorem memRead_meetsOnly (s : State) (a : Addr) : MeetsOnly s.cfg (memRead s a) := by
  intro f h
  obtain ⟨rfl, ha⟩ := memRead_error h
  exact .ppuAccess ha

theorem memWrite_meetsOnly (s : State) (a : Addr) (v : Byte) : MeetsOnly s.cfg (memWrite s a v) := by
  intro f h
  rcases memWrite_error h with ⟨rfl, ha⟩ | ⟨pages, prg, x, rfl, ha⟩
  · exact .ppuAccess ha
  · exact .romWrite ha

theorem readPair_meetsOnly (s : State) (a b : Addr) : MeetsOnly s.cfg (readPair s a b) :=
  (memRead_meetsOnly s a).bind fun _ _ => (memRead_meetsOnly s b).bind fun _ _ => meetsOnly_ok _

/-- The resolver is called with NoneAddressing by no instruction (R100), and meets no condition in any other mode. -/
theorem effectiveAddress_meetsOnly {o : Operand} (ho : o ≠ .noneAddressing) (s : State) :
    MeetsOnly cfg (effectiveAddress o s) := by
  obtain ⟨a, ha⟩ := exists_effectiveAddress s ho
  rw [ha]
  exact meetsOnly_ok a

theorem operandValue_meetsOnly {o : Operand} (ho : o ≠ .noneAddressing) (s : State) :
    MeetsOnly s.cfg (operandValue o s) := by
  cases o with
  | imm v => exact meetsOnly_ok v
  | _ => exact (effectiveAddress_meetsOnly ho s).bind fun a _ => memRead_meetsOnly s a

theorem push8_meetsOnly (v : Byte) (s : State) : MeetsOnly s.cfg (push8 v s) := (memWrite_meetsOnly s _ v).map _

theorem push8_cfg {v : Byte} (h : push8 v s = .ok t) : t.cfg = s.cfg := by
  obtain ⟨u, hu, rfl⟩ := push8_ok h
  obtain ⟨-, -, -, -, -, -, hcfg⟩ := memWrite_frame hu
  exact hcfg

theorem push16_meetsOnly (w : Addr) (s : State) : MeetsOnly s.cfg (push16 w s) :=
  (push8_meetsOnly _ s).bind fun u hu => push8_cfg hu ▸ push8_meetsOnly _ u

theorem push16_cfg {w : Addr} (h : push16 w s = .ok t) : t.cfg = s.cfg := by
  obtain ⟨u, hu, ht⟩ := push16_ok h
  rw [push8_cfg ht, push8_cfg hu]

/-- JSR reads its target after its pushes, which leave the configuration alone. -/
theorem call_meetsOnly (s : State) : MeetsOnly s.cfg (call s) :=
  (push16_meetsOnly _ s).bind fun u hu =>
    (push16_cfg hu ▸ readPair_meetsOnly u _ _).bind fun _ _ => meetsOnly_ok _

theorem exists_pull8 (s : State) : ∃ v, pull8 s = .ok (v, { s with sp := s.sp + 1 }) := by
  obtain ⟨v, hv⟩ := exists_memRead_stackAt s (s.sp + 1)
  exact ⟨v, pull8_of_memRead hv⟩

/-- The stack page lies outside the PPU window, so a pull always answers. -/
theorem exists_pull16 (s : State) : ∃ q, pull16 s = .ok q := by
  obtain ⟨lo, hlo⟩ := exists_pull8 s
  obtain ⟨hi, hhi⟩ := exists_pull8 { s with sp := s.sp + 1 }
  simp only [pull16, hlo, bind, Except.bind, hhi]
  exact ⟨_, rfl⟩

theorem rtsBody_meetsOnly (s : State) : MeetsOnly s.cfg (rtsBody s) := by
  obtain ⟨q, hq⟩ := exists_pull16 s
  rw [rtsBody, hq]
  exact meetsOnly_ok _

theorem trapReturn_meetsOnly (s : State) : MeetsOnly s.cfg (trapReturn s) := by
  obtain ⟨v, hv⟩ := exists_pull8 s
  obtain ⟨q, hq⟩ := exists_pull16 (State.setStatus { s with sp := s.sp + 1 } (restoredStatus v))
  simp only [trapReturn, hv, bind, Except.bind, hq]
  exact meetsOnly_ok _

theorem readOperandBytes_meetsOnly (s : State) (n : Nat) : MeetsOnly s.cfg (readOperandBytes s n) := by
  induction n with
  | zero => exact meetsOnly_ok ()
  | succ n ih =>
    rw [readOperandBytes_succ]
    exact ih.bind fun _ _ => (memRead_meetsOnly s _).map _

end

/-! ### The handlers -/

/-- The handlers that call the resolver. -/
def Handler.resolves : Handler → Bool
  | .reads _ | .stores _ | .modifies _ _ => true
  | _ => false

/-- Only handlers of instructions with an operand call the resolver (R100). -/
theorem resolves_handler (i : Instr) : (handler i).resolves = decide (i.operand ≠ .noneAddressing) := by
  cases i <;> rfl

/-- The handlers that raise UnhandledOpcode. -/
def Handler.isUnhandled : Handler → Bool
  | .unhandled => true
  | _ => false

theorem isUnhandled_handler (i : Instr) : (handler i).isUnhandled = !i.hasTableEntry := by
  cases i <;> rfl

/-- The functions that make a handler's accesses for it meet conditions of a bus access only. -/
def Handler.MeetsOnly : Handler → Prop
  | .jumps target => ∀ s, Machine.MeetsOnly s.cfg (target s)
  | .returns body => ∀ s, Machine.MeetsOnly s.cfg (body s)
  | _ => True

theorem impliedHandler_meetsOnly (m : Mnemonic) : (impliedHandler m).MeetsOnly := by
  cases m
  case RTS => exact rtsBody_meetsOnly
  case RTI => exact trapReturn_meetsOnly
  all_goals exact True.intro

theorem operandHandler_meetsOnly (m : Mnemonic) : (operandHandler m).MeetsOnly := by
  cases m <;> exact True.intro

theorem handler_meetsOnly (i : Instr) : (handler i).MeetsOnly := by
  refine handler_induction (P := Handler.MeetsOnly) ?_ ?_ ?_ ?_ ?_
  · exact fun _ _ _ => True.intro
  · exact fun w _ => meetsOnly_ok w
  · exact fun w s => readPair_meetsOnly s w _
  · exact impliedHandler_meetsOnly _
  · exact operandHandler_meetsOnly _

/-- The body of a handler meets conditions of a bus access only: it calls the resolver for an operand, it is not
`unhandled`, and what it does before an access leaves the configuration alone. -/
theorem Handler.MeetsOnly.body {h : Handler} (hm : h.MeetsOnly) {m : Mnemonic} (hw : h.WritesWithin m) {i : Instr}
    (ho : h.resolves → i.operand ≠ .noneAddressing) (hu : h.isUnhandled = false) (s : State) :
    Machine.MeetsOnly s.cfg (h.body i s) := by
  cases h with
  | acts effect => exact meetsOnly_ok _
  | reads effect => exact ((operandValue_meetsOnly (ho rfl) s).map _).map _
  | stores value =>
    exact ((effectiveAddress_meetsOnly (ho rfl) s).bind fun a _ => memWrite_meetsOnly s a _).map _
  | modifies modify after =>
    have hcfg (v : Byte) : (modify v s).2.cfg = s.cfg := (hw.1 v s).1.cfg
    exact ((effectiveAddress_meetsOnly (ho rfl) s).bind fun a _ => (memRead_meetsOnly s a).bind fun v _ =>
      (hcfg v ▸ memWrite_meetsOnly (modify v s).2 a _).bind fun _ _ => meetsOnly_ok _).map _
  | pushes value => exact (push8_meetsOnly _ s).map _
  | pulls effect => exact (((memRead_meetsOnly s _).map _).map _).map _
  | branches c off => exact meetsOnly_ok _
  | jumps target => exact (hm s).map _
  | calls => exact call_meetsOnly s
  | returns body => exact hm s
  | unhandled => cases hu

/-! ### The instruction, the fetch and the step -/

/-- An admitted instruction meets conditions of a bus access only (R269). -/
theorem exec_fault {i : Instr} (hwf : i.WellFormed) {s : State} {f : Fault} (h : exec i s = .fault f) :
    Meets s.cfg f := by
  have ho : (handler i).resolves → i.operand ≠ .noneAddressing := by
    rw [resolves_handler]
    exact of_decide_eq_true
  have hu : (handler i).isUnhandled = false := by
    rw [isUnhandled_handler, hwf]
    rfl
  have hbody := (handler_meetsOnly i).body (handler_within i) ho hu s
  rw [exec_eq_finish] at h
  cases hb : (handler i).body i s with
  | ok q => rw [hb] at h; cases h
  | error e => rw [hb] at h; cases h; exact hbody f hb

theorem exec_ne_refused (i : Instr) (s : State) (q : Refusal) : exec i s ≠ .refused q := by
  rw [exec_eq_finish]
  exact finish_never_refuses s _ _ q

/-- The fetch meets a condition of a bus access, or the byte at `PC` has no entry (R273). -/
theorem fetch_error {s : State} {f : Fault} (h : fetch s = .error f) : StepCanRaise s f := by
  cases hop : memRead s s.pc with
  | error e =>
    obtain rfl : e = f := Except.error.inj ((fetch_of_memRead_error hop).symm.trans h)
    exact (memRead_meetsOnly s s.pc e hop).stepCanRaise
  | ok op =>
    cases hentry : tableEntry s.cfg op with
    | none =>
      obtain rfl : .unhandledOpcode op s.pc = f := Except.error.inj ((fetch_of_noEntry hop hentry).symm.trans h)
      exact ⟨rfl, hop, hentry⟩
    | some e =>
      obtain ⟨r, hr, he⟩ := Option.bind_eq_some_iff.1 hentry
      rw [fetch_of_record hop hr (Option.isSome_of_eq_some he) 0 0] at h
      exact ((readOperandBytes_meetsOnly s _).map _ f h).stepCanRaise

theorem wellFormed_of_fetch {s : State} {i : Instr} (h : fetch s = .ok i) : i.WellFormed := by
  obtain ⟨op, r, -, -, he, rfl, -⟩ := fetch_ok h
  exact (wellFormed_build_iff r _ _).2 he

/-- Settles O9: the fetch runs admitted instructions only, and these stop by a bus access or not at all. -/
theorem stepRaisesOnlyItsConditions : Obligations.StepRaisesOnlyItsConditions := by
  intro s
  rcases step_cases s with ⟨e, he, hstep⟩ | ⟨i, hi, hstep⟩ <;> rw [hstep]
  · refine ⟨fun f h => ?_, nofun⟩
    cases h
    exact fetch_error he
  · exact ⟨fun f h => (exec_fault (wellFormed_of_fetch hi) h).stepCanRaise, exec_ne_refused i s⟩

/-- Settles O10: with RAM everywhere there is no bus access to stop by. -/
theorem everyInstructionCompletesInRam : Obligations.EveryInstructionCompletesInRam := by
  intro i s hram hwf
  cases h : exec i s with
  | next t => exact ⟨t, rfl⟩
  | fault f => exact absurd (exec_fault hwf h) (not_meets_of_ram hram f)
  | refused q => exact absurd h (exec_ne_refused i s q)

end Sys2Proof.Machine
end

section
/-!
PROOFS. `reset()` (R291, R292) and the load contract (R294): bytes written in a row from 0x4000 up, where no address is
masked, stand where they were written and change no other byte.
-/

namespace Sys2Proof.Machine

open Sys2Proof.Claim

/-! ### Reset -/

/-- Settles O52: the vector lies above the PPU window. -/
theorem resetLoadsRegistersAndVector : Obligations.ResetLoadsRegistersAndVector := by
  intro s
  obtain ⟨lo, hlo⟩ : ∃ v, memRead s 0xFFFC = .ok v := memRead_outside (.inr (by decide))
  obtain ⟨hi, hhi⟩ : ∃ v, memRead s 0xFFFD = .ok v := memRead_outside (.inr (by decide))
  have hvector : memReadWide s resetVector = .ok (joinBytes hi lo) := readPair_of_ok hlo hhi
  refine ⟨lo, hi, hlo, hhi, ?_⟩
  rw [resetCpu, hvector, joinBytes_eq_ofNat]
  rfl

/-- No read tells the memory after `reset()` from the memory before it (R293). -/
theorem memRead_of_resetCpu {s t : State} (h : resetCpu s = .next t) (b : Addr) : memRead t b = memRead s b := by
  obtain ⟨lo, hi, -, -, hreset⟩ := resetLoadsRegistersAndVector s
  obtain rfl := Host.Outcome.next.inj (h.symm.trans hreset)
  exact memRead_congr rfl rfl b

/-! ### Addresses from 0x4000 up -/

theorem ppuRoute_addr {ppu : Option Device} {a x : Addr} {d : Device} (h : ppuRoute ppu a = .device d x) : x = a := by
  unfold ppuRoute at h
  split at h <;> cases h
  rfl

/-- A device is handed an address from 0x4000 up for that address only: the windows mask to lower ones (R52, R54). -/
theorem eq_of_route_high {cfg : Config} {a x : Addr} {d : Device} (h : route cfg a = .device d x) (hx : 0x4000 ≤ x) :
    a = x := by
  by_cases hout : a < 0x2000 ∨ 0x3FFF < a
  · rw [route_outside cfg hout] at h
    obtain rfl := regionRoute_addr h
    unfold lookedUp at hx ⊢
    split
    case isTrue hlow =>
      have hmask := ramMask_lt a
      rw [if_pos hlow] at hx
      bv_omega
    case isFalse => rfl
  · rw [route_ppuWindow cfg (by bv_omega) (by bv_omega)] at h
    obtain rfl := ppuRoute_addr h
    obtain ⟨-, hmask⟩ := ppuMask_bounds (a := a) (by bv_omega) (by bv_omega)
    bv_omega

theorem route_fullRam {cfg : Config} (hram : cfg.regions = [fullRam]) {a : Addr} (ha : 0x4000 ≤ a) :
    route cfg a = .device .ram a := by
  have hlow : ¬ a < 0x2000 := by bv_omega
  have hcovers : fullRam.first ≤ a ∧ a ≤ fullRam.last :=
    ⟨show (0x0000 : Addr) ≤ a by bv_omega, show a ≤ (0xFFFF : Addr) by bv_omega⟩
  rw [route_outside cfg (.inr (by bv_omega)), hram, lookedUp, if_neg hlow]
  exact regionRoute_of_first (before := []) nofun hcovers

theorem not_sameCell_high {cfg : Config} (hram : cfg.regions = [fullRam]) {a b : Addr} (ha : 0x4000 ≤ a) (h : b ≠ a) :
    ¬ sameCell cfg a b :=
  fun hsame => h (eq_of_route_high (hsame.symm.trans (route_fullRam hram ha)) ha)

/-! ### Bytes written in a row -/

/-- What bytes written from `a` up leave: each byte at its address, every other byte as it was, and the premises for the
next write. -/
structure Stored (a : Addr) (bytes : List Byte) (s t : State) : Prop where
  cfg : t.cfg = s.cfg
  canonical : Memory.wf t.mem = true
  placed : ∀ k (h : k < bytes.length), memRead t (BitVec.ofNat 16 (a.toNat + k)) = .ok bytes[k]
  others : ∀ b : Addr, b.toNat < a.toNat ∨ a.toNat + bytes.length ≤ b.toNat → memRead t b = memRead s b

theorem Stored.nil (a : Addr) {s : State} (hwf : Memory.wf s.mem = true) : Stored a [] s s :=
  ⟨rfl, hwf, nofun, fun _ _ => rfl⟩

theorem Stored.cons {a : Addr} {v : Byte} {rest : List Byte} {s u t : State} (hram : s.cfg.regions = [fullRam])
    (hwf : Memory.wf s.mem = true) (ha : 0x4000 ≤ a) (hend : a.toNat + (rest.length + 1) < 0x10000)
    (hwrite : memWrite s a v = .ok u) (h : Stored (a + 1) rest u t) : Stored a (v :: rest) s t where
  cfg := by
    obtain ⟨-, -, -, -, -, -, hcfg⟩ := memWrite_frame hwrite
    exact h.cfg.trans hcfg
  canonical := h.canonical
  placed k hk := by
    have hnext : (a + 1).toNat = a.toNat + 1 := by bv_omega
    cases k with
    | zero =>
      rw [Nat.add_zero, BitVec.ofNat_toNat, BitVec.setWidth_eq, h.others a (.inl (by omega))]
      exact memRead_memWrite_same hwf hwrite (route_fullRam hram ha) rfl
    | succ k =>
      have hplaced := h.placed k (Nat.lt_of_succ_lt_succ hk)
      rwa [hnext, Nat.add_right_comm] at hplaced
  others b hb := by
    have hnext : (a + 1).toNat = a.toNat + 1 := by bv_omega
    simp only [List.length_cons] at hb
    have hne : b ≠ a := by rintro rfl; omega
    rw [h.others b (by omega), memRead_memWrite_other hwrite (not_sameCell_high hram ha hne)]

/-- With RAM everywhere bytes can be written in a row from 0x4000 up, below the last address. -/
theorem writeBytes_fullRam {bytes : List Byte} {a : Addr} {s : State} (hram : s.cfg.regions = [fullRam])
    (hwf : Memory.wf s.mem = true) (ha : 0x4000 ≤ a) (hend : a.toNat + bytes.length < 0x10000) :
    ∃ t, writeBytes a bytes s = .ok t ∧ Stored a bytes s t := by
  induction bytes generalizing a s with
  | nil => exact ⟨s, rfl, .nil a hwf⟩
  | cons v rest ih =>
    rw [List.length_cons] at hend
    obtain ⟨u, hu⟩ : ∃ u, memWrite s a v = .ok u := ⟨_, memWrite_of_device (route_fullRam hram ha) v⟩
    obtain ⟨-, -, -, -, -, -, hcfg⟩ := memWrite_frame hu
    obtain ⟨t, ht, hstored⟩ := ih (a := a + 1) (hcfg ▸ hram) (memWrite_wf hu hwf) (by bv_omega) (by bv_omega)
    refine ⟨t, ?_, .cons hram hwf ha hend hu hstored⟩
    rw [writeBytes, hu]
    exact ht

/-- A wide write is two bytes written in a row (R58). -/
theorem memWriteWide_eq_writeBytes (s : State) (a w : Addr) :
    memWriteWide s a w = writeBytes a [lowByte w, highByte w] s := by
  rw [memWriteWide, writeBytes]
  refine congrArg _ (funext fun u => ?_)
  cases h : memWrite u (a + 1) (highByte w) <;> simp only [writeBytes, h] <;> rfl

/-! ### The load contract -/

/-- The program and the vector are written, and then `reset()` runs. -/
theorem loadProgram_of_writes {program : List Byte} {s u t : State} (hlen : program.length ≤ 0x7FFC)
    (hprogram : writeBytes programStart program s = .ok u) (hvector : writeBytes resetVector [0x00, 0x80] u = .ok t) :
    loadProgram program s = resetCpu t := by
  have hwide : memWriteWide u resetVector programStart = .ok t :=
    (memWriteWide_eq_writeBytes u resetVector programStart).trans hvector
  have hfits : ¬ programLimit < program.length := Nat.not_lt.2 hlen
  rw [loadProgram, if_neg hfits, hprogram]
  simp only [bind, Except.bind, hwide]

/-- Settles O54: the program ends below the vector, so the vector's bytes change none of it, and `reset()` takes its PC
from them. -/
theorem loaderPlacesProgram : Obligations.LoaderPlacesProgram := by
  intro program s hram hwf
  refine ⟨fun hlong => if_pos hlong, fun hlen => ?_⟩
  have hstart : programStart.toNat = 0x8000 := rfl
  have hvec : resetVector.toNat = 0xFFFC := rfl
  obtain ⟨u, hu, hprogram⟩ := writeBytes_fullRam (bytes := program) (a := programStart) hram hwf (by decide) (by omega)
  obtain ⟨t, ht, hvector⟩ := writeBytes_fullRam (bytes := [0x00, 0x80]) (a := resetVector) (hprogram.cfg ▸ hram)
    hprogram.canonical (by decide) (by decide)
  have hcfg : t.cfg = s.cfg := hvector.cfg.trans hprogram.cfg
  have hlo : memRead t 0xFFFC = .ok 0x00 := hvector.placed 0 (by decide)
  have hhi : memRead t 0xFFFD = .ok 0x80 := hvector.placed 1 (by decide)
  obtain ⟨lo, hi, hlo', hhi', hreset⟩ := resetLoadsRegistersAndVector t
  obtain rfl : 0x00 = lo := Except.ok.inj (hlo.symm.trans hlo')
  obtain rfl : 0x80 = hi := Except.ok.inj (hhi.symm.trans hhi')
  have hread (b : Addr) := memRead_of_resetCpu hreset b
  refine ⟨_, (loadProgram_of_writes hlen hu ht).trans hreset, fun k hk => ?_, (hread _).trans hlo, (hread _).trans hhi,
    rfl, rfl, rfl, rfl, rfl, congrArg Config.pReset hcfg, hcfg, fun b hb => ?_⟩
  · have hbelow : (BitVec.ofNat 16 (0x8000 + k)).toNat < resetVector.toNat := by bv_omega
    rw [hread, hvector.others _ (.inl hbelow)]
    exact hprogram.placed k hk
  · have hlow : b.toNat < 0x8000 := by bv_omega
    rw [hread, hvector.others b (.inl (by omega)), hprogram.others b (.inl (by omega))]

end Sys2Proof.Machine
end
